-- ==== Sys2Proof/Word.lean ====
section
/-! DEFINITION. The word types of the block: every width the rules of 10_state.md name (u5, u8, u9, u10, u16, u32). -/

namespace Sys2Proof

/-- u8: registers, port values, channels (R11, R79). -/
abbrev Byte := BitVec 8

/-- u5: the index of the command-block accumulator (R43). -/
abbrev U5 := BitVec 5

/-- u9: window, partial, scroll and cursor fields, and a serial frame (R27 to R31, R92). -/
abbrev U9 := BitVec 9

/-- u10: the sentinel-prefixed shift register (R22). -/
abbrev U10 := BitVec 10

/-- u16: port offsets and the scan position (R30, R49). -/
abbrev U16 := BitVec 16

/-- u32: the running parameter index (R24). -/
abbrev U32 := BitVec 32

end Sys2Proof
end

