-- ==== Sys2Proof/Config.lean ====
section
/-! DEFINITION. What an instance of the block fixes: the geometry (R7), the device and revision names (R46), and the open
values of R9 and R47 as constants without a body, so that no proof can lean on a value of theirs. -/

namespace Sys2Proof

/-- The device types of R46; no rule reads one (R10). -/
inductive DeviceType
  | variantA
  | variantB
deriving DecidableEq, Repr

/-- A concrete revision, what `effectiveRevision` holds (R46). -/
inductive Revision
  | a
  | i
  | m
deriving DecidableEq, Repr, Inhabited

/-- A requested revision, a concrete one or `Auto` (R46). -/
inductive RequestedRevision
  | auto
  | a
  | i
  | m
deriving DecidableEq, Repr

namespace Config

/-- R7: the GRAM has 320 rows. -/
abbrev numRows : Nat := 320

/-- R7: the GRAM has 240 columns. -/
abbrev numCols : Nat := 240

/-- R7: `LAST_ROW`. -/
abbrev lastRow : Nat := 319

/-- R7: `LAST_COL`. -/
abbrev lastCol : Nat := 239

/-- R289: the length of the canned INQUIRY response. -/
abbrev inquiryLength : Nat := 54

/-- R242, `NOISE`: the n-th noise byte drawn, a FREE VALUE (log 5). -/
opaque noise : Nat → Byte

/-- R289, `INQUIRY_DATA`: byte n of the canned response, open (log 6). An index above 53 is no byte of the response; only a
restored record can ask for one, and what it then reads is free as well. -/
opaque inquiryData : Nat → Byte

/-- R302, `AUTO_REVISION`: what `Auto` resolves to at reset, open (log 7). -/
opaque autoRevision : Revision

end Config

end Sys2Proof
end

