-- ==== Sys2Proof/Machine/Expand.lean ====
section
/-! DEFINITION. The channel expansions of R236 and R237 and the expansion table they fill (R39). -/

namespace Sys2Proof.Machine

/-- R237, `E5`: 5-bit to 8-bit. -/
def expand5 (v : Byte) : Byte := (v <<< 3) ||| (v >>> 2)

/-- R237, `E6`: 6-bit to 8-bit. -/
def expand6 (v : Byte) : Byte := (v <<< 2) ||| (v >>> 4)

/-- R236: a 4-bit red or blue channel widened to the table's 5-bit index. -/
def widen4to5 (v : Byte) : Byte := (v <<< 1) ||| (v >>> 3)

/-- R236: a 4-bit green channel widened to the table's 6-bit index. -/
def widen4to6 (v : Byte) : Byte := (v <<< 2) ||| (v >>> 2)

theorem widen4to5_lt : ∀ v : Byte, v.toNat < 16 → (widen4to5 v).toNat < 32 := by decide

theorem widen4to6_lt : ∀ v : Byte, v.toNat < 16 → (widen4to6 v).toNat < 64 := by decide

/-- R340 step 4: entry `i` of the table, red and blue below 32, green above. -/
def lutEntry (i : Nat) : Byte :=
  if i < 32 then expand5 (BitVec.ofNat 8 i) else expand6 (BitVec.ofNat 8 (i - 32))

/-- R340 step 4: the whole table. -/
def lutTable : Vector Byte 96 := Vector.ofFn fun i => lutEntry i.val

end Sys2Proof.Machine
end

