-- ==== Sys2Proof/Machine/Interface.lean ====
section
/-! DEFINITION. The block's interface as its two agents see it (R17, R49 to R53): the operations they issue, the value an
operation returns, and the part of the state that selects the opcode-table row of an operation. -/

namespace Sys2Proof

/-- The two kinds of port access (R49). -/
inductive PortAccess
  | write (value : Byte)
  | read (peek : Bool)
deriving DecidableEq, Repr

/-- One operation at the interface, in the notation of R108 and R109. `frame` is the pseudo-instruction `FRAME F`,
three writes of port 0x18 (log 2);
`save` and `restore` carry whether the host's stream takes or gives a whole record (log 9). -/
inductive Op
  | portWrite (port : U16) (value : Byte)
  | portRead (port : U16) (peek : Bool)
  | frame (bits : U9)
  | hsync
  | vsync
  | refreshPixel
  | pixel18 (r g b : Byte)
  | pixel16 (r g b : Byte)
  | pixel12 (r g b : Byte)
  | powerOnReset
  | setDeviceType (t : DeviceType)
  | setRevision (r : RequestedRevision)
  | save (ioOk : Bool)
  | restore (ioOk : Bool)
deriving DecidableEq, Repr

/-- What an operation returns to its caller (R49, R50, R304, R305). -/
inductive Result
  | byte (value : Byte)
  | flag (value : Bool)
deriving DecidableEq, Repr

/-- What the encoding of R91 and R94 takes from the state: the routing selector `regs[0x12]`, whether the revision is M, and
the current command. -/
structure Context where
  route : Byte
  revisionM : Bool
  cmd : Byte
deriving DecidableEq, Repr

end Sys2Proof
end

