-- ==== Sys2Proof/Syntax.lean ====
section
/-! DEFINITION. The instructions: one constructor for each row of spec/opcode_table.json, in the table's order. -/

namespace Sys2Proof

/-- The rows of the opcode table. A row that the table splits by context (the route of port 0x18, the current command of a
parameter frame) is a constructor of its own; `decodeOp` picks it by that context. -/
inductive Instr
  /-- R120: OUT to regs[0x00..0x0F]; `p` is offset bits 3:0. -/
  | outRegsLow (p : BitVec 4) (v : Byte)
  /-- R120: OUT to regs[0x10..0x17]; `p` is offset bits 2:0. -/
  | outRegsHigh (p : BitVec 3) (v : Byte)
  /-- R121: IN or PEEK of regs[0x00..0x0F]. -/
  | inRegsLow (p : BitVec 4) (peek : Bool)
  /-- R121: IN or PEEK of regs[0x10..0x17]. -/
  | inRegsHigh (p : BitVec 3) (peek : Bool)
  /-- R123: OUT 0x18 on the LCD path (regs[0x12] = 0). -/
  | outLcd (v : Byte)
  /-- R281: OUT 0x18 on the mass-storage path (regs[0x12] = 1, revision M). -/
  | outMassStorage (v : Byte)
  /-- R124: OUT 0x18 with regs[0x12] = 1 on revision A or I. -/
  | outMassStorageAbsent (v : Byte)
  /-- R126: OUT 0x18 with any other routing value. -/
  | outRouteOther (v : Byte)
  /-- R125: IN or PEEK of 0x18 on the LCD path. -/
  | inLcd (peek : Bool)
  /-- R282: IN or PEEK of 0x18 on the mass-storage path. -/
  | inMassStorage (peek : Bool)
  /-- R287: IN or PEEK of 0x18 with regs[0x12] = 1 on revision A or I. -/
  | inMassStorageAbsent (peek : Bool)
  /-- R126: IN or PEEK of 0x18 with any other routing value. -/
  | inRouteOther (peek : Bool)
  /-- R127: an access to an offset above 0x18. -/
  | portAbove (port : U16) (access : PortAccess)
  -- command frames (R95)
  | nop
  | swreset
  | slpin
  | slpout
  | ptlon
  | noron
  | invoff
  | invon
  | gamset
  | dispoff
  | dispon
  | caset
  | raset
  | ramwr
  | ptlar
  | vscrdef
  | teoff
  | teon
  | madctl
  | vscrsadd
  | idmoff
  | idmon
  | colmod
  | ramwrc
  | ramctrl
  | pvgamctrl
  | nvgamctrl
  /-- R157: a command frame whose opcode R95 does not list. -/
  | unassigned (op : Byte)
  -- parameter frames (R99); `b` is the parameter byte
  | casetParam (b : Byte)
  | rasetParam (b : Byte)
  | ptlarParam (b : Byte)
  | vscrdefParam (b : Byte)
  | ramwrParam (b : Byte)
  | ramwrcParam (b : Byte)
  | vscrsaddParam (b : Byte)
  | madctlParam (b : Byte)
  | colmodParam (b : Byte)
  | ramctrlParam (b : Byte)
  | gamsetParam (b : Byte)
  | pvgamctrlParam (b : Byte)
  | nvgamctrlParam (b : Byte)
  /-- R188: a parameter of a command without a parameter rule. -/
  | otherParam (b : Byte)
  -- interface calls (R49 to R51, R108)
  | hsync
  | vsync
  | refresh
  | pix18 (r g b : Byte)
  | pix16 (r g b : Byte)
  | pix12 (r g b : Byte)
  | reset
  | setdev (t : DeviceType)
  | setrev (r : RequestedRevision)
  | save (ioOk : Bool)
  | restore (ioOk : Bool)
deriving DecidableEq, Repr

end Sys2Proof
end

