-- ==== Sys2Proof/Machine/State.lean ====
section
/-! DEFINITION. The state of the block (10_state.md), the reasons a step can stop, and the state after reset (R341). -/

namespace Sys2Proof.Machine

/-! ## Memory: the GRAM and the output buffer -/

/-- A lane memory: (address, byte) pairs, addresses strictly rising, no entry equal to what an unlisted address reads as.
`frame` and `display` are two of them; Ops.lean gives the address of a cell's lane (log 11). -/
abbrev Memory := List Host.Cell

/-- R341: what an unlisted lane reads as, the value power-on leaves in every lane of `frame` and `display`. -/
def Memory.unlisted : Byte := 0

/-- The canonical form: addresses strictly rising and no entry equal to the unlisted byte. -/
abbrev Memory.wf (m : Memory) : Prop :=
  m.Pairwise (fun c d => c.1 < d.1) ∧ ∀ c ∈ m, c.2 ≠ Memory.unlisted

/-! ## The block -/

/-- R30: the column step, an integer in {-1, 0, +1}. -/
inductive ColDir
  | backward
  | still
  | forward
deriving DecidableEq, Repr

/-- The names of the `mode` bits (R25); Flags.lean gives their positions. -/
inductive ModeFlag
  | sleep
  | off
  | invert
  | idle
  | partialOn
  | scroll
  | blank
  | ignore
deriving DecidableEq, Repr

/-- The names of the `mac` bits (R26, R100); Flags.lean gives their positions. -/
inductive MacFlag
  | hro
  | bgr
  | vro
  | rcx
  | cao
  | rao
deriving DecidableEq, Repr

/-- The block state of R21 to R45, which is also the record of a snapshot (R304). -/
structure Block where
  /-- R21: the raw registers, offsets 0x00 to 0x17. -/
  regs : Vector Byte 24
  /-- R22: the sentinel-prefixed shift register. -/
  fifo : U10
  /-- R23: the current command. -/
  cmd : Byte
  /-- R24: the running parameter index. -/
  param : U32
  /-- R25: the display modes. -/
  mode : Byte
  /-- R26: memory access control. -/
  mac : Byte
  /-- R27: the address window. -/
  colStart : U9
  colEnd : U9
  rowStart : U9
  rowEnd : U9
  /-- R28: the partial-display window. -/
  partialStart : U9
  partialEnd : U9
  /-- R29: the scroll registers. -/
  topArea : U9
  scrollArea : U9
  bottomArea : U9
  scrollStart : U9
  /-- R30: the scan position. -/
  row : U16
  col : U16
  srcRow : U16
  dstRow : U16
  colDir : ColDir
  /-- R31: the GRAM write cursor. -/
  rowReg : U9
  colReg : U9
  /-- R32: the cursor has completed a windowed pass. -/
  exhausted : Bool
  /-- R33: the interface bit depth. -/
  ifBpp : Byte
  /-- R34: the interface control byte. -/
  ifCtl : Byte
  /-- R35: the partial pixel accumulators. -/
  ifRed : Byte
  ifGreen : Byte
  ifBlue : Byte
  /-- R36: the selected gamma curve. -/
  gamma : Byte
  /-- R37: `gammaCorrection[0]`. -/
  gammaTable0 : Vector Byte 16
  /-- R37: `gammaCorrection[1]`. -/
  gammaTable1 : Vector Byte 16
  /-- R39: the expansion table. -/
  lut : Vector Byte 96
  /-- R40: the GRAM. -/
  frame : Memory
  /-- R41: the output buffer. -/
  display : Memory
  /-- R42: the tearing-effect output. -/
  tear : Bool
  /-- R43: the command-block accumulator. -/
  cbw : Vector Byte 32
  cbwIndex : U5
  /-- R44: the command-status buffer. -/
  csw : Vector Byte 16
  cswIndex : Byte
  /-- R45: the pending-response view into the canned response. -/
  dataOffset : Nat
  dataLength : Nat
deriving DecidableEq, Repr

/-- The table of R341. -/
def Block.reset : Block where
  regs := Vector.replicate 24 0
  fifo := 1
  cmd := 0
  param := 0
  mode := 0x03
  mac := 0
  colStart := 0
  colEnd := 239
  rowStart := 0
  rowEnd := 319
  partialStart := 0
  partialEnd := 319
  topArea := 0
  scrollArea := 320
  bottomArea := 0
  scrollStart := 0
  row := 0
  col := 0
  srcRow := 0
  dstRow := 0
  colDir := .still
  rowReg := 0
  colReg := 0
  exhausted := false
  ifBpp := 0
  ifCtl := 0
  ifRed := 0
  ifGreen := 0
  ifBlue := 0
  gamma := 1
  gammaTable0 := Vector.replicate 16 0
  gammaTable1 := Vector.replicate 16 0
  lut := lutTable
  frame := []
  display := []
  tear := false
  cbw := Vector.replicate 32 0
  cbwIndex := 0
  csw := Vector.replicate 16 0
  cswIndex := 0
  dataOffset := 0
  dataLength := 0

/-! ## The whole state -/

/-- The block, its revision state (R46, outside the snapshot record by R306), and the model's own fields at its boundary:
the operations issued and not yet taken (log 1), the value the last operation returned (log 4), the number of noise bytes
drawn (log 5), and the record the host's stream holds (log 9). -/
structure State where
  block : Block
  deviceType : DeviceType
  requestedRevision : RequestedRevision
  effectiveRevision : Revision
  pending : List Op
  result : Option Result
  draws : Nat
  stream : Option Block
deriving DecidableEq, Repr

/-- Why a step stops in a state nothing leaves (R321). Every one is the spec's own fault; stopping is safe. -/
inductive Fault
  /-- R234, by PIX18 (and by a serial byte only from a state no run reaches, log 15): a channel of 64 or more. Safe. -/
  | pixel18Range
  /-- R235, by PIX16 (and a serial byte as above): red or blue of 32 or more, or green of 64 or more. Safe. -/
  | pixel16Range
  /-- R236, by PIX12 (and a serial byte as above): a channel of 16 or more. Safe. -/
  | pixel12Range
deriving DecidableEq, Repr

/-- Why an access has no successor state (R322). -/
inductive Refusal
  /-- An arm of exec without a meaning; no arm of this model raises it. Safe. -/
  | notModelled (mnemonic : String)
  /-- R126, by OUT and IN of port 0x18 with regs[0x12] neither 0 nor 1. Safe. -/
  | route
  /-- R127, by OUT and IN of an offset above 0x18. Safe. -/
  | port
deriving DecidableEq, Repr

/-- The outcome of a meaning. -/
abbrev Outcome := Host.Outcome State Fault Refusal

/-- The machine right after power-on (R340, R341), configured as VariantA and revision A (log 8), with no operation issued. -/
def State.reset : State where
  block := Block.reset
  deviceType := .variantA
  requestedRevision := .a
  effectiveRevision := .a
  pending := []
  result := none
  draws := 0
  stream := none

end Sys2Proof.Machine
end

