-- ==== Sys2Proof/Machine/Flags.lean ====
section
/-! DEFINITION. Bit positions and the fields read from `mode`, `mac`, `ifBpp` and `ifCtl` (R25, R26, R33, R34, R100 to R102). -/

namespace Sys2Proof.Machine

/-- `v[i] <- b` (R11). -/
def putBit (v : Byte) (i : Nat) (b : Bool) : Byte :=
  if b then v ||| (1#8 <<< i) else v &&& ~~~(1#8 <<< i)

/-- R25: the position of a `mode` bit. -/
def modeBit : ModeFlag → Nat
  | .sleep => 0
  | .off => 1
  | .invert => 2
  | .idle => 3
  | .partialOn => 4
  | .scroll => 5
  | .blank => 6
  | .ignore => 7

/-- R100, `MAC_BITS` at its default (log 12): the position of a `mac` bit. -/
def macBit : MacFlag → Nat
  | .hro => 2
  | .bgr => 3
  | .vro => 4
  | .rcx => 5
  | .cao => 6
  | .rao => 7

/-- R102, `IFCTL_RM_BIT` at its default (log 12). -/
def ifCtlRmBit : Nat := 4

/-- Whether a mode flag is set. -/
def Block.modeFlag (k : Block) (f : ModeFlag) : Bool := k.mode.getLsbD (modeBit f)

/-- Write one mode flag and keep the other seven. -/
def Block.setMode (k : Block) (f : ModeFlag) (b : Bool) : Block := { k with mode := putBit k.mode (modeBit f) b }

/-- Whether a memory-access-control flag is set. -/
def Block.macFlag (k : Block) (f : MacFlag) : Bool := k.mac.getLsbD (macBit f)

/-- R34: the serial path carries configuration only (`ifCtl[IFCTL_RM_BIT] = 1`). -/
def Block.configOnly (k : Block) : Bool := k.ifCtl.getLsbD ifCtlRmBit

/-- The serial pixel formats of R101. -/
def bitsPerPixel (ifBpp : Byte) : Option Nat :=
  match (ifBpp &&& 0x07#8).toNat with
  | 3 => some 12
  | 5 => some 16
  | 6 => some 18
  | _ => none

end Sys2Proof.Machine
end

