-- ==== Sys2Proof/Machine/Operands.lean ====
section
/-! DEFINITION. The operand forms: register indices, the word addressing and 9-bit assembly of geometry parameters (R103, R172),
the fields of serial pixel bytes (R104 to R106), and the bits a data-port write shifts in (R76). -/

namespace Sys2Proof.Machine

/-- The register that an offset 0x00..0x0F names (R90). -/
def lowRegIndex (p : BitVec 4) : Fin 24 := ⟨p.toNat, by have := p.isLt; omega⟩

/-- The register that an offset 0x10..0x17 names (R90). -/
def highRegIndex (p : BitVec 3) : Fin 24 := ⟨16 + p.toNat, by have := p.isLt; omega⟩

/-- R172: the word index of a parameter, `param >> 1`. -/
def wordIndex (param : U32) : Nat := (param >>> 1).toNat

/-- R103, `W9`: a parameter byte assembled into a 9-bit field, high byte at an even index, low byte at an odd one. -/
def assemble9 (x : U9) (param : U32) (b : Byte) : U9 :=
  if param.getLsbD 0 then (x &&& 0x100#9) ||| b.zeroExtend 9
  else (((b.zeroExtend 16 <<< 8) ||| (x.zeroExtend 16 &&& 0x00FF#16)) &&& 0x1FF#16).truncate 9

/-- R123: the shift of three bits into the sentinel-prefixed register. -/
def shiftIn (fifo : U10) (v : Byte) : U10 := (fifo <<< 3) ||| (v &&& 0x07#8).zeroExtend 10

/-- R104, R231: the 6-bit channel of an 18-bpp byte. -/
def channel18 (b : Byte) : Byte := b >>> 2

/-- R105, R232: red of a 16-bpp first byte. -/
def red16 (b : Byte) : Byte := b >>> 3

/-- R105, R232: green bits 5:3 of a 16-bpp first byte, in place. -/
def greenHigh16 (b : Byte) : Byte := (b &&& 0x07#8) <<< 3

/-- R105, R232: green bits 2:0 of a 16-bpp second byte. -/
def greenLow16 (b : Byte) : Byte := b >>> 5

/-- R105, R232: blue of a 16-bpp second byte. -/
def blue16 (b : Byte) : Byte := b &&& 0x1F#8

/-- R106, R233: the high nibble of a 12-bpp byte. -/
def highNibble (b : Byte) : Byte := b >>> 4

/-- R106, R233: the low nibble of a 12-bpp byte. -/
def lowNibble (b : Byte) : Byte := b &&& 0x0F#8

/-- R30, R240: the column after a step of the scan, on u16. -/
def stepColumn (col : U16) : ColDir → U16
  | .backward => col - 1
  | .still => col
  | .forward => col + 1

end Sys2Proof.Machine
end

