-- ==== Sys2Proof/Machine/Ops.lean ====
section
/-! DEFINITION. The named operations: memory and cells, the register file, the ways a meaning ends, the context of the next
operation. The block takes no exception and returns from none (R320, R325): what stands here in their place is the one way a
block operation ends in a fault of R321 (`onBlockChecked`). -/

namespace Sys2Proof.Machine

/-! ## Memory -/

/-- Read one byte. -/
def Memory.read : Memory → Nat → Byte
  | [], _ => Memory.unlisted
  | (a, b) :: m, x => if x = a then b else Memory.read m x

/-- Insert an entry before the first larger address. -/
def Memory.insert (x : Nat) (v : Byte) : Memory → Memory
  | [] => [(x, v)]
  | (a, b) :: m => if x < a then (x, v) :: (a, b) :: m else (a, b) :: Memory.insert x v m

/-- Remove what is listed for an address. -/
def Memory.erase (m : Memory) (x : Nat) : Memory := m.filter fun c => decide (c.1 ≠ x)

/-- Write one byte; writing the unlisted byte removes the entry. -/
def Memory.write (m : Memory) (x : Nat) (v : Byte) : Memory :=
  if v = Memory.unlisted then m.erase x else Memory.insert x v (m.erase x)

/-- The address of lane `lane` of `frame[row][col]`, rows outermost as R40 lays them out (log 11). -/
def frameAddr (row col lane : Nat) : Nat := (row * 240 + col) * 4 + lane

/-- The address of lane `lane` of `display[col][row]`, columns outermost as R41 lays them out (log 11). -/
def displayAddr (col row lane : Nat) : Nat := (col * 320 + row) * 4 + lane

/-- A lane of a GRAM cell. -/
def Block.frameLane (k : Block) (row col lane : Nat) : Byte := k.frame.read (frameAddr row col lane)

/-- A lane of an output cell. -/
def Block.displayLane (k : Block) (col row lane : Nat) : Byte := k.display.read (displayAddr col row lane)

/-- R262: store red, green and blue of a GRAM cell; lane 3 is not written. -/
def Block.putFrame (k : Block) (row col : Nat) (r g b : Byte) : Block :=
  { k with frame := ((k.frame.write (frameAddr row col 0) r).write (frameAddr row col 1) g).write (frameAddr row col 2) b }

/-- R244: write red, green, blue and the opaque alpha of an output cell. -/
def Block.putDisplay (k : Block) (col row : Nat) (r g b : Byte) : Block :=
  { k with display := (((k.display.write (displayAddr col row 0) r).write (displayAddr col row 1) g).write
      (displayAddr col row 2) b).write (displayAddr col row 3) 0xFF }

/-! ## The register file -/

/-- R121: read a raw register. -/
def Block.readReg (k : Block) (i : Fin 24) : Byte := k.regs[i]

/-- R120: write a raw register. -/
def Block.writeReg (k : Block) (i : Fin 24) (v : Byte) : Block := { k with regs := k.regs.set i v }

/-- R91: the routing selector, `regs[0x12]`. -/
def Block.route (k : Block) : Byte := k.regs[0x12]

/-! ## How a meaning ends -/

/-- Complete with a new block state. -/
def onBlock (f : Block → Block) (s : State) : Outcome := .next { s with block := f s.block }

/-- Complete with a new block state, or end in a fault of R321. -/
def onBlockChecked (f : Block → Except Fault Block) (s : State) : Outcome :=
  match f s.block with
  | .ok k => .next { s with block := k }
  | .error e => .fault e

/-- Complete with a new block state and a returned byte (R49). -/
def returnByte (f : Block → Byte × Block) (s : State) : Outcome :=
  .next { s with block := (f s.block).2, result := some (.byte (f s.block).1) }

/-- Complete with a new block state and a returned Boolean (R50). -/
def returnFlag (f : Block → Bool × Block) (s : State) : Outcome :=
  .next { s with block := (f s.block).2, result := some (.flag (f s.block).1) }

/-- R322: an access without a successor state. -/
def refuse (r : Refusal) (_ : State) : Outcome := .refused r

/-! ## The context of the next operation -/

/-- What selects the row of the next operation (R91, R94). -/
def State.context (s : State) : Context where
  route := s.block.route
  revisionM := decide (s.effectiveRevision = .m)
  cmd := s.block.cmd

end Sys2Proof.Machine
end

