-- ==== Sys2Proof/Machine/MassStorage.lean ====
section
/-! DEFINITION. The mass-storage SCSI responder (46_mass_storage.md). -/

namespace Sys2Proof.Machine

/-- R281, `MsWrite(v)`. -/
def msWrite (v : Byte) (k : Block) : Block :=
  { k with cbw := k.cbw.set k.cbwIndex.toNat v k.cbwIndex.isLt, cbwIndex := k.cbwIndex + 1 }

/-- R107, R282: the accumulated block begins with 'U' 'S' 'B' 'C'. -/
def hasSignature (k : Block) : Bool :=
  decide (k.cbw[0] = 0x55) && decide (k.cbw[1] = 0x53) && decide (k.cbw[2] = 0x42) && decide (k.cbw[3] = 0x43)

/-- R284: byte `i` of the status wrapper built from the block; bytes 13 to 15 are not written. -/
def statusByte (k : Block) (i : Fin 16) : Byte :=
  if i.val = 3 then 0x53
  else if h : i.val < 8 then k.cbw[i.val]
  else if i.val < 13 then 0
  else k.csw[i]

/-- R284, `MsBuildStatus()`; a SCSI INQUIRY (0x12 at offset 15, R107) arms the canned response. -/
def msBuildStatus (k : Block) : Block :=
  { k with
    csw := Vector.ofFn (statusByte k)
    cswIndex := 0
    dataOffset := if k.cbw[15] = 0x12 then 0 else k.dataOffset
    dataLength := if k.cbw[15] = 0x12 then Config.inquiryLength else k.dataLength }

/-- R285, `MsClearAccumulator()`. -/
def msClearAccumulator (k : Block) : Block := { k with cbw := Vector.replicate 32 0, cbwIndex := 0 }

/-- R283, `MsPop()`. -/
def msPop (k : Block) : Byte × Block :=
  (Config.inquiryData k.dataOffset, { k with dataOffset := k.dataOffset + 1, dataLength := k.dataLength - 1 })

/-- R282, `MsRead()`. -/
def msRead (k : Block) : Byte × Block :=
  if 0 < k.dataLength then msPop k
  else (0, msClearAccumulator (if hasSignature k then msBuildStatus k else k))

/-- OUT 0x18 on the mass-storage path of revision M (R281). -/
def execOutMassStorage (v : Byte) (s : State) : Outcome := onBlock (msWrite v) s

/-- IN or PEEK of 0x18 on the mass-storage path of revision M (R282); `peek` has no effect (R286). -/
def execInMassStorage (_peek : Bool) (s : State) : Outcome := returnByte msRead s

/-- OUT 0x18 with the mass-storage route on revision A or I: no effect (R124, R287). -/
def execOutMassStorageAbsent (_v : Byte) (s : State) : Outcome := .next s

/-- IN or PEEK of 0x18 with the mass-storage route on revision A or I: reads 0, changes nothing (R125, R287). -/
def execInMassStorageAbsent (_peek : Bool) (s : State) : Outcome := returnByte (fun k => (0, k)) s

end Sys2Proof.Machine
end

