-- ==== Sys2Proof/WellFormed.lean ====
section
/-! DEFINITION. Well-formed instructions. The operand types already have the exact widths of the encoding, so two checks are
left: an unassigned opcode is one that R95 does not list, and an access above 0x18 has an offset above 0x18. -/

namespace Sys2Proof

/-- The opcodes R95 lists by name. -/
def assignedOpcodes : List Byte :=
  [0x00, 0x01, 0x10, 0x11, 0x12, 0x13, 0x20, 0x21, 0x26, 0x28, 0x29, 0x2A, 0x2B, 0x2C] ++
  [0x30, 0x33, 0x34, 0x35, 0x36, 0x37, 0x38, 0x39, 0x3A, 0x3C, 0xB0, 0xE0, 0xE1]

/-- The commands whose parameters have a rule of their own (R99, R174 to R187). -/
def parameterOpcodes : List Byte :=
  [0x26, 0x2A, 0x2B, 0x2C, 0x30, 0x33, 0x36, 0x37, 0x3A, 0x3C, 0xB0, 0xE0, 0xE1]

/-- R157 and R127: what the operand types do not already say. The pixel port takes any byte (R321 gives an out-of-range
channel its outcome), so it needs no check. -/
def Instr.wellFormed : Instr → Bool
  | .unassigned op => !assignedOpcodes.contains op
  | .portAbove port _ => decide (0x18 < port.toNat)
  | _ => true

/-- Whether the context selects this row for its encoding: the columns `route`, `revision` and `cmd` of the opcode table
(R91, R94, R122, R125, R170). A row the context does not select is written the same way as another row. -/
def Instr.selectedBy (x : Context) : Instr → Bool
  | .outLcd _ => x.route == 0
  | .inLcd _ => x.route == 0
  | .outMassStorage _ => x.route == 1 && x.revisionM
  | .inMassStorage _ => x.route == 1 && x.revisionM
  | .outMassStorageAbsent _ => x.route == 1 && !x.revisionM
  | .inMassStorageAbsent _ => x.route == 1 && !x.revisionM
  | .outRouteOther _ => x.route != 0 && x.route != 1
  | .inRouteOther _ => x.route != 0 && x.route != 1
  | .casetParam _ => x.cmd == 0x2A
  | .rasetParam _ => x.cmd == 0x2B
  | .ptlarParam _ => x.cmd == 0x30
  | .vscrdefParam _ => x.cmd == 0x33
  | .ramwrParam _ => x.cmd == 0x2C
  | .ramwrcParam _ => x.cmd == 0x3C
  | .vscrsaddParam _ => x.cmd == 0x37
  | .madctlParam _ => x.cmd == 0x36
  | .colmodParam _ => x.cmd == 0x3A
  | .ramctrlParam _ => x.cmd == 0xB0
  | .gamsetParam _ => x.cmd == 0x26
  | .pvgamctrlParam _ => x.cmd == 0xE0
  | .nvgamctrlParam _ => x.cmd == 0xE1
  | .otherParam _ => !parameterOpcodes.contains x.cmd
  | _ => true

end Sys2Proof
end

