-- ==== Sys2Proof/Decode.lean ====
section
/-! DEFINITION. The encodings of 30_encoding.md: the port map (R71, R90, R91), the opcode map (R95), the parameter rows (R99),
the three writes that carry a frame (R93), and the encoder. Decoding is total: every operation is some row (R98, R129), and
only a table word that is no operation's encoding is rejected, by a name. -/

namespace Sys2Proof

/-! ## Frames and the writes that carry them -/

/-- R92: bit 8 of a frame, set for a parameter frame. -/
def frameIsParameter (f : U9) : Bool := f.getLsbD 8

/-- R92: bits 7:0 of a frame, the opcode or the parameter byte. -/
def frameByte (f : U9) : Byte := f.truncate 8

/-- R92: the command frame of an opcode. -/
def commandFrameBits (op : Byte) : U9 := op.zeroExtend 9

/-- R92: the parameter frame of a byte. -/
def parameterFrameBits (b : Byte) : U9 := 0x100#9 ||| b.zeroExtend 9

/-- R76, R93: the frame that three written bytes carry; bits 7:3 of each do not matter. -/
def frameOfWrites (w0 w1 w2 : Byte) : U9 :=
  ((w0 &&& 0x07#8).zeroExtend 9 <<< 6) ||| ((w1 &&& 0x07#8).zeroExtend 9 <<< 3) ||| (w2 &&& 0x07#8).zeroExtend 9

/-- R93, the canonical encoding: the first of the three writes of a frame. -/
def frameWrite0 (f : U9) : Byte := (f >>> 6).truncate 8

/-- R93: the second write of a frame. -/
def frameWrite1 (f : U9) : Byte := ((f >>> 3) &&& 7#9).truncate 8

/-- R93: the third write of a frame. -/
def frameWrite2 (f : U9) : Byte := (f &&& 7#9).truncate 8

/-- R83, R109: the port writes that `FRAME F` stands for. -/
def frameWrites (f : U9) : List Op :=
  [.portWrite 0x18 (frameWrite0 f), .portWrite 0x18 (frameWrite1 f), .portWrite 0x18 (frameWrite2 f)]

/-! ## Decoding an operation -/

/-- R95: the command opcode map. -/
def decodeCommand (op : Byte) : Instr :=
  match op.toNat with
  | 0x00 => .nop
  | 0x01 => .swreset
  | 0x10 => .slpin
  | 0x11 => .slpout
  | 0x12 => .ptlon
  | 0x13 => .noron
  | 0x20 => .invoff
  | 0x21 => .invon
  | 0x26 => .gamset
  | 0x28 => .dispoff
  | 0x29 => .dispon
  | 0x2A => .caset
  | 0x2B => .raset
  | 0x2C => .ramwr
  | 0x30 => .ptlar
  | 0x33 => .vscrdef
  | 0x34 => .teoff
  | 0x35 => .teon
  | 0x36 => .madctl
  | 0x37 => .vscrsadd
  | 0x38 => .idmoff
  | 0x39 => .idmon
  | 0x3A => .colmod
  | 0x3C => .ramwrc
  | 0xB0 => .ramctrl
  | 0xE0 => .pvgamctrl
  | 0xE1 => .nvgamctrl
  | _ => .unassigned op

/-- R99, R170: a parameter byte under the current command. -/
def decodeParameter (cmd b : Byte) : Instr :=
  match cmd.toNat with
  | 0x26 => .gamsetParam b
  | 0x2A => .casetParam b
  | 0x2B => .rasetParam b
  | 0x2C => .ramwrParam b
  | 0x30 => .ptlarParam b
  | 0x33 => .vscrdefParam b
  | 0x36 => .madctlParam b
  | 0x37 => .vscrsaddParam b
  | 0x3A => .colmodParam b
  | 0x3C => .ramwrcParam b
  | 0xB0 => .ramctrlParam b
  | 0xE0 => .pvgamctrlParam b
  | 0xE1 => .nvgamctrlParam b
  | _ => .otherParam b

/-- R92, R129: a frame is exactly one of a command and a parameter. -/
def decodeFrame (cmd : Byte) (f : U9) : Instr :=
  if frameIsParameter f then decodeParameter cmd (frameByte f) else decodeCommand (frameByte f)

/-- R91, R122: a write to the data port, by route and revision. -/
def decodeDataWrite (x : Context) (v : Byte) : Instr :=
  if x.route = 0 then .outLcd v
  else if x.route = 1 then (if x.revisionM then .outMassStorage v else .outMassStorageAbsent v)
  else .outRouteOther v

/-- R91, R125: a read of the data port, by route and revision. -/
def decodeDataRead (x : Context) (peek : Bool) : Instr :=
  if x.route = 0 then .inLcd peek
  else if x.route = 1 then (if x.revisionM then .inMassStorage peek else .inMassStorageAbsent peek)
  else .inRouteOther peek

/-- R71, R90: a port write. -/
def decodePortWrite (x : Context) (port : U16) (v : Byte) : Instr :=
  if port.toNat < 0x10 then .outRegsLow (port.truncate 4) v
  else if port.toNat < 0x18 then .outRegsHigh (port.truncate 3) v
  else if port.toNat = 0x18 then decodeDataWrite x v
  else .portAbove port (.write v)

/-- R71, R90: a port read. -/
def decodePortRead (x : Context) (port : U16) (peek : Bool) : Instr :=
  if port.toNat < 0x10 then .inRegsLow (port.truncate 4) peek
  else if port.toNat < 0x18 then .inRegsHigh (port.truncate 3) peek
  else if port.toNat = 0x18 then decodeDataRead x peek
  else .portAbove port (.read peek)

/-- The row of the opcode table that an operation is, in a context. -/
def decodeOp (x : Context) : Op → Instr
  | .portWrite port v => decodePortWrite x port v
  | .portRead port peek => decodePortRead x port peek
  | .frame f => decodeFrame x.cmd f
  | .hsync => .hsync
  | .vsync => .vsync
  | .refreshPixel => .refresh
  | .pixel18 r g b => .pix18 r g b
  | .pixel16 r g b => .pix16 r g b
  | .pixel12 r g b => .pix12 r g b
  | .powerOnReset => .reset
  | .setDeviceType t => .setdev t
  | .setRevision r => .setrev r
  | .save ok => .save ok
  | .restore ok => .restore ok

/-! ## Encoding an instruction -/

/-- The operation that carries an instruction: offset and value (R71), frame bits (R92, R95) or call. -/
def encode : Instr → Op
  | .outRegsLow p v => .portWrite (p.zeroExtend 16) v
  | .outRegsHigh p v => .portWrite (0x10#16 ||| p.zeroExtend 16) v
  | .inRegsLow p peek => .portRead (p.zeroExtend 16) peek
  | .inRegsHigh p peek => .portRead (0x10#16 ||| p.zeroExtend 16) peek
  | .outLcd v => .portWrite 0x18 v
  | .outMassStorage v => .portWrite 0x18 v
  | .outMassStorageAbsent v => .portWrite 0x18 v
  | .outRouteOther v => .portWrite 0x18 v
  | .inLcd peek => .portRead 0x18 peek
  | .inMassStorage peek => .portRead 0x18 peek
  | .inMassStorageAbsent peek => .portRead 0x18 peek
  | .inRouteOther peek => .portRead 0x18 peek
  | .portAbove port (.write v) => .portWrite port v
  | .portAbove port (.read peek) => .portRead port peek
  | .nop => .frame 0x000
  | .swreset => .frame 0x001
  | .slpin => .frame 0x010
  | .slpout => .frame 0x011
  | .ptlon => .frame 0x012
  | .noron => .frame 0x013
  | .invoff => .frame 0x020
  | .invon => .frame 0x021
  | .gamset => .frame 0x026
  | .dispoff => .frame 0x028
  | .dispon => .frame 0x029
  | .caset => .frame 0x02A
  | .raset => .frame 0x02B
  | .ramwr => .frame 0x02C
  | .ptlar => .frame 0x030
  | .vscrdef => .frame 0x033
  | .teoff => .frame 0x034
  | .teon => .frame 0x035
  | .madctl => .frame 0x036
  | .vscrsadd => .frame 0x037
  | .idmoff => .frame 0x038
  | .idmon => .frame 0x039
  | .colmod => .frame 0x03A
  | .ramwrc => .frame 0x03C
  | .ramctrl => .frame 0x0B0
  | .pvgamctrl => .frame 0x0E0
  | .nvgamctrl => .frame 0x0E1
  | .unassigned op => .frame (commandFrameBits op)
  | .casetParam b => .frame (parameterFrameBits b)
  | .rasetParam b => .frame (parameterFrameBits b)
  | .ptlarParam b => .frame (parameterFrameBits b)
  | .vscrdefParam b => .frame (parameterFrameBits b)
  | .ramwrParam b => .frame (parameterFrameBits b)
  | .ramwrcParam b => .frame (parameterFrameBits b)
  | .vscrsaddParam b => .frame (parameterFrameBits b)
  | .madctlParam b => .frame (parameterFrameBits b)
  | .colmodParam b => .frame (parameterFrameBits b)
  | .ramctrlParam b => .frame (parameterFrameBits b)
  | .gamsetParam b => .frame (parameterFrameBits b)
  | .pvgamctrlParam b => .frame (parameterFrameBits b)
  | .nvgamctrlParam b => .frame (parameterFrameBits b)
  | .otherParam b => .frame (parameterFrameBits b)
  | .hsync => .hsync
  | .vsync => .vsync
  | .refresh => .refreshPixel
  | .pix18 r g b => .pixel18 r g b
  | .pix16 r g b => .pixel16 r g b
  | .pix12 r g b => .pixel12 r g b
  | .reset => .powerOnReset
  | .setdev t => .setDeviceType t
  | .setrev r => .setRevision r
  | .save ok => .save ok
  | .restore ok => .restore ok

/-! ## Words as spec/opcode_table.json numbers their bits -/

/-- Why a table word is no operation's encoding. -/
inductive DecodeError
  /-- The word has a bit at or above its own length. -/
  | bitsBeyondLength
  /-- No row of the table has an encoding of this length. -/
  | noSuchLength
deriving DecidableEq, Repr

/-- The operation a table word is (log 3). The table numbers serial frames (9 bits, R92) and port offsets (16 bits, R90) from
bit 0 in one space, so their words overlap: a word of up to 16 bits below 0x200 is read as a serial frame, any other as the
offset of a port write of 0, and a word of 24 bits as offset (bits 15:0) and value (bits 23:16) of a port write. -/
def decodeTable (nbits w : Nat) : Except DecodeError Op :=
  if nbits = 0 ∨ 24 < nbits then .error .noSuchLength
  else if 2 ^ nbits ≤ w then .error .bitsBeyondLength
  else if nbits ≤ 16 then
    (if w < 0x200 then .ok (.frame (BitVec.ofNat 9 w)) else .ok (.portWrite (BitVec.ofNat 16 w) 0))
  else .ok (.portWrite (BitVec.ofNat 16 (w % 65536)) (BitVec.ofNat 8 (w / 65536)))

/-- The context of the state after reset (R341): LCD path, command 0x00, not revision M (log 8). -/
def resetContext : Context := { route := 0, revisionM := false, cmd := 0 }

/-- The instruction the decoder reads from a table word right after reset. -/
def decodeTableWord (nbits w : Nat) : Option Instr :=
  match decodeTable nbits w with
  | .ok op => some (decodeOp resetContext op)
  | .error _ => none

end Sys2Proof
end

