-- ==== Sys2Proof/Machine/Cursor.lean ====
section
/-! DEFINITION. The GRAM write-address cursor (45_gram_cursor.md): reset, store, advance, exhaustion. -/

namespace Sys2Proof.Machine

/-- R261, `CursorReset()`. -/
def cursorReset (k : Block) : Block :=
  if k.macFlag .rcx then { k with rowReg := k.colStart, colReg := k.rowStart, exhausted := false }
  else { k with rowReg := k.rowStart, colReg := k.colStart, exhausted := false }

/-- R263: the fast axis of the cursor. -/
def fastAxis (k : Block) : U9 := if k.macFlag .rcx then k.rowReg else k.colReg

/-- R263: the slow axis of the cursor. -/
def slowAxis (k : Block) : U9 := if k.macFlag .rcx then k.colReg else k.rowReg

/-- R263: the mask of the fast axis, 0x1FF for a GRAM row and 0xFF for a GRAM column. -/
def fastMask (k : Block) : U9 := if k.macFlag .rcx then 0x1FF else 0xFF

/-- R263: the mask of the slow axis. -/
def slowMask (k : Block) : U9 := if k.macFlag .rcx then 0xFF else 0x1FF

/-- R263: write both axes back to the registers they came from. -/
def setAxes (k : Block) (fast slow : U9) : Block :=
  if k.macFlag .rcx then { k with rowReg := fast, colReg := slow } else { k with rowReg := slow, colReg := fast }

/-- R264, `FAST_REVERSE` at its default (log 12): the fast axis runs backward. -/
def fastReversed (k : Block) : Bool := if k.macFlag .rcx then k.macFlag .rao else k.macFlag .cao

/-- R264, R265: the fast axis one step on, through its mask. -/
def fastStep (k : Block) : U9 := (if fastReversed k then fastAxis k - 1 else fastAxis k + 1) &&& fastMask k

/-- R266: the slow axis is at its end and neither window range is inverted. -/
def passComplete (k : Block) : Bool :=
  decide (slowAxis k = k.rowEnd) && decide (k.colStart ≤ k.colEnd) && decide (k.rowStart ≤ k.rowEnd)

/-- R266: park the cursor at the sentinel. -/
def parkCursor (k : Block) : Block := { k with exhausted := true, rowReg := 0x1FF, colReg := 0xFF }

/-- R263 to R266, `CursorAdvance()`. -/
def cursorAdvance (k : Block) : Block :=
  if fastAxis k = k.colEnd then
    (if passComplete k then parkCursor k else setAxes k k.colStart ((slowAxis k + 1) &&& slowMask k))
  else setAxes k (fastStep k) (slowAxis k)

/-- R262: the cursor stands on a GRAM cell. -/
def cursorInGram (k : Block) : Bool :=
  decide (k.rowReg.toNat < Config.numRows) && decide (k.colReg.toNat < Config.numCols)

/-- R262, `StorePixel(r, g, b)`; dropped while exhausted (R267). -/
def storePixel (r g b : Byte) (k : Block) : Block :=
  if k.exhausted then k
  else cursorAdvance (if cursorInGram k then k.putFrame k.rowReg.toNat k.colReg.toNat r g b else k)

end Sys2Proof.Machine
end

