-- ==== Sys2Proof/Machine/Reset.lean ====
section
/-! DEFINITION. The fields of the software reset (R141), power-on reset (R340), and the device and revision setters (R300). -/

namespace Sys2Proof.Machine

/-- R141, the body of the software reset, which reads only `mac.RCX`. -/
def softResetFields (k : Block) : Block :=
  { k with
    mode := 0x03
    colStart := 0
    colEnd := if k.macFlag .rcx then 319 else 239
    rowStart := 0
    rowEnd := if k.macFlag .rcx then 239 else 319
    partialStart := 0
    partialEnd := 319
    topArea := 0
    scrollArea := 320
    bottomArea := 0
    scrollStart := 0
    gamma := 1
    tear := false }

/-- R340 step 1: every element of R21 to R45 zero. -/
def zeroedBlock : Block where
  regs := Vector.replicate 24 0
  fifo := 0
  cmd := 0
  param := 0
  mode := 0
  mac := 0
  colStart := 0
  colEnd := 0
  rowStart := 0
  rowEnd := 0
  partialStart := 0
  partialEnd := 0
  topArea := 0
  scrollArea := 0
  bottomArea := 0
  scrollStart := 0
  row := 0
  col := 0
  srcRow := 0
  dstRow := 0
  colDir := .still
  rowReg := 0
  colReg := 0
  exhausted := false
  ifBpp := 0
  ifCtl := 0
  ifRed := 0
  ifGreen := 0
  ifBlue := 0
  gamma := 0
  gammaTable0 := Vector.replicate 16 0
  gammaTable1 := Vector.replicate 16 0
  lut := Vector.replicate 96 0
  frame := []
  display := []
  tear := false
  cbw := Vector.replicate 32 0
  cbwIndex := 0
  csw := Vector.replicate 16 0
  cswIndex := 0
  dataOffset := 0
  dataLength := 0

/-- R340 steps 1 to 4, which do not depend on the state before. -/
def powerOnBlock : Block := { softResetFields { zeroedBlock with fifo := 1 } with lut := lutTable }

/-- R301: the revision that a request resolves to. -/
def resolveRevision : RequestedRevision → Revision
  | .auto => Config.autoRevision
  | .a => .a
  | .i => .i
  | .m => .m

/-- RESET, `PowerOnReset()` (R340); `deviceType` and `requestedRevision` are kept. -/
def execReset (s : State) : Outcome :=
  .next { s with block := powerOnBlock, effectiveRevision := resolveRevision s.requestedRevision }

/-- SETDEV, `SetDeviceType(t)` (R300). -/
def execSetdev (t : DeviceType) (s : State) : Outcome := .next { s with deviceType := t }

/-- SETREV, `SetRevision(r)` (R300); the effective revision waits for the next power-on. -/
def execSetrev (r : RequestedRevision) (s : State) : Outcome := .next { s with requestedRevision := r }

end Sys2Proof.Machine
end

