-- ==== Sys2Proof/Machine/Commands.lean ====
section
/-! DEFINITION. The command frames (41_commands.md): for each opcode of R95 its effect on the block and its instruction. -/

namespace Sys2Proof.Machine

/-- R140, the common part of every command frame. -/
def beginCommand (op : Byte) (k : Block) : Block := { k with cmd := op, param := 0 }

/-- R145, R146: PTLON and NORON clear the scroll start. -/
def clearScrollStart (k : Block) : Block := { k with scrollStart := 0 }

/-- R152, R153: the tearing-effect output. -/
def setTear (b : Bool) (k : Block) : Block := { k with tear := b }

/-- 0x00 NOP (R142). -/
def nopCmd (k : Block) : Block := beginCommand 0x00 k

/-- 0x01 SWRESET, software reset (R141). -/
def swresetCmd (k : Block) : Block := softResetFields (beginCommand 0x01 k)

/-- 0x10 SLPIN (R143). -/
def slpinCmd (k : Block) : Block := (beginCommand 0x10 k).setMode .sleep true

/-- 0x11 SLPOUT (R144). -/
def slpoutCmd (k : Block) : Block := (beginCommand 0x11 k).setMode .sleep false

/-- 0x12 PTLON, SCROLL is kept (R145). -/
def ptlonCmd (k : Block) : Block := clearScrollStart ((beginCommand 0x12 k).setMode .partialOn true)

/-- 0x13 NORON (R146). -/
def noronCmd (k : Block) : Block := clearScrollStart (((beginCommand 0x13 k).setMode .partialOn false).setMode .scroll false)

/-- 0x20 INVOFF (R147). -/
def invoffCmd (k : Block) : Block := (beginCommand 0x20 k).setMode .invert false

/-- 0x21 INVON (R148). -/
def invonCmd (k : Block) : Block := (beginCommand 0x21 k).setMode .invert true

/-- 0x26 GAMSET (R156). -/
def gamsetCmd (k : Block) : Block := beginCommand 0x26 k

/-- 0x28 DISPOFF (R149). -/
def dispoffCmd (k : Block) : Block := (beginCommand 0x28 k).setMode .off true

/-- 0x29 DISPON (R150). -/
def disponCmd (k : Block) : Block := (beginCommand 0x29 k).setMode .off false

/-- 0x2A CASET (R156). -/
def casetCmd (k : Block) : Block := beginCommand 0x2A k

/-- 0x2B RASET (R156). -/
def rasetCmd (k : Block) : Block := beginCommand 0x2B k

/-- 0x2C RAMWR (R151). -/
def ramwrCmd (k : Block) : Block := cursorReset (beginCommand 0x2C k)

/-- 0x30 PTLAR (R156). -/
def ptlarCmd (k : Block) : Block := beginCommand 0x30 k

/-- 0x33 VSCRDEF (R156). -/
def vscrdefCmd (k : Block) : Block := beginCommand 0x33 k

/-- 0x34 TEOFF (R152). -/
def teoffCmd (k : Block) : Block := setTear false (beginCommand 0x34 k)

/-- 0x35 TEON (R153). -/
def teonCmd (k : Block) : Block := setTear true (beginCommand 0x35 k)

/-- 0x36 MADCTL (R156). -/
def madctlCmd (k : Block) : Block := beginCommand 0x36 k

/-- 0x37 VSCRSADD, SCROLL waits for a parameter (R156). -/
def vscrsaddCmd (k : Block) : Block := beginCommand 0x37 k

/-- 0x38 IDMOFF (R154). -/
def idmoffCmd (k : Block) : Block := (beginCommand 0x38 k).setMode .idle false

/-- 0x39 IDMON (R155). -/
def idmonCmd (k : Block) : Block := (beginCommand 0x39 k).setMode .idle true

/-- 0x3A COLMOD (R156). -/
def colmodCmd (k : Block) : Block := beginCommand 0x3A k

/-- 0x3C RAMWRC, the cursor is not reset (R156). -/
def ramwrcCmd (k : Block) : Block := beginCommand 0x3C k

/-- 0xB0 RAMCTRL (R156). -/
def ramctrlCmd (k : Block) : Block := beginCommand 0xB0 k

/-- 0xE0 PVGAMCTRL (R156). -/
def pvgamctrlCmd (k : Block) : Block := beginCommand 0xE0 k

/-- 0xE1 NVGAMCTRL (R156). -/
def nvgamctrlCmd (k : Block) : Block := beginCommand 0xE1 k

/-- An opcode that R95 does not list: no effect beyond R140 (R157). -/
def unassignedCmd (op : Byte) (k : Block) : Block := beginCommand op k

/-! ## The instructions -/

/-- Command frame 0x00 (R142). -/
def execNop (s : State) : Outcome := onBlock nopCmd s

/-- Command frame 0x01 (R141). -/
def execSwreset (s : State) : Outcome := onBlock swresetCmd s

/-- Command frame 0x10 (R143). -/
def execSlpin (s : State) : Outcome := onBlock slpinCmd s

/-- Command frame 0x11 (R144). -/
def execSlpout (s : State) : Outcome := onBlock slpoutCmd s

/-- Command frame 0x12 (R145). -/
def execPtlon (s : State) : Outcome := onBlock ptlonCmd s

/-- Command frame 0x13 (R146). -/
def execNoron (s : State) : Outcome := onBlock noronCmd s

/-- Command frame 0x20 (R147). -/
def execInvoff (s : State) : Outcome := onBlock invoffCmd s

/-- Command frame 0x21 (R148). -/
def execInvon (s : State) : Outcome := onBlock invonCmd s

/-- Command frame 0x26 (R156). -/
def execGamset (s : State) : Outcome := onBlock gamsetCmd s

/-- Command frame 0x28 (R149). -/
def execDispoff (s : State) : Outcome := onBlock dispoffCmd s

/-- Command frame 0x29 (R150). -/
def execDispon (s : State) : Outcome := onBlock disponCmd s

/-- Command frame 0x2A (R156). -/
def execCaset (s : State) : Outcome := onBlock casetCmd s

/-- Command frame 0x2B (R156). -/
def execRaset (s : State) : Outcome := onBlock rasetCmd s

/-- Command frame 0x2C (R151). -/
def execRamwr (s : State) : Outcome := onBlock ramwrCmd s

/-- Command frame 0x30 (R156). -/
def execPtlar (s : State) : Outcome := onBlock ptlarCmd s

/-- Command frame 0x33 (R156). -/
def execVscrdef (s : State) : Outcome := onBlock vscrdefCmd s

/-- Command frame 0x34 (R152). -/
def execTeoff (s : State) : Outcome := onBlock teoffCmd s

/-- Command frame 0x35 (R153). -/
def execTeon (s : State) : Outcome := onBlock teonCmd s

/-- Command frame 0x36 (R156). -/
def execMadctl (s : State) : Outcome := onBlock madctlCmd s

/-- Command frame 0x37 (R156). -/
def execVscrsadd (s : State) : Outcome := onBlock vscrsaddCmd s

/-- Command frame 0x38 (R154). -/
def execIdmoff (s : State) : Outcome := onBlock idmoffCmd s

/-- Command frame 0x39 (R155). -/
def execIdmon (s : State) : Outcome := onBlock idmonCmd s

/-- Command frame 0x3A (R156). -/
def execColmod (s : State) : Outcome := onBlock colmodCmd s

/-- Command frame 0x3C (R156). -/
def execRamwrc (s : State) : Outcome := onBlock ramwrcCmd s

/-- Command frame 0xB0 (R156). -/
def execRamctrl (s : State) : Outcome := onBlock ramctrlCmd s

/-- Command frame 0xE0 (R156). -/
def execPvgamctrl (s : State) : Outcome := onBlock pvgamctrlCmd s

/-- Command frame 0xE1 (R156). -/
def execNvgamctrl (s : State) : Outcome := onBlock nvgamctrlCmd s

/-- Command frame of an unassigned opcode (R157). -/
def execUnassigned (op : Byte) (s : State) : Outcome := onBlock (unassignedCmd op) s

end Sys2Proof.Machine
end

