-- ==== Sys2Proof/Machine/Pixel.lean ====
section
/-! DEFINITION. Pixel ingestion (44_pixel_pipeline.md): the three entry points, the serial demultiplexer, and the pixel-port
instructions PIX18, PIX16 and PIX12. -/

namespace Sys2Proof.Machine

/-- R234, `Pixel18(r, g, b)`; the range check comes before every write (R326). -/
def pixel18 (r g b : Byte) (k : Block) : Except Fault Block :=
  if r.toNat < 64 ∧ g.toNat < 64 ∧ b.toNat < 64 then .ok (storePixel (expand6 r) (expand6 g) (expand6 b) k)
  else .error .pixel18Range

/-- R235, `Pixel16(r, g, b)`: red and blue look up `lut[0..31]`, green `lut[32..95]` (R238: always in range). -/
def pixel16 (r g b : Byte) (k : Block) : Except Fault Block :=
  if h : r.toNat < 32 ∧ g.toNat < 64 ∧ b.toNat < 32 then
    .ok (storePixel (k.lut[r.toNat]'(by omega)) (k.lut[32 + g.toNat]'(by omega)) (k.lut[b.toNat]'(by omega)) k)
  else .error .pixel16Range

/-- R236, `Pixel12(r, g, b)`, `EXPAND12` at its default (log 12): each channel widened by replication, then looked up. -/
def pixel12 (r g b : Byte) (k : Block) : Except Fault Block :=
  if h : r.toNat < 16 ∧ g.toNat < 16 ∧ b.toNat < 16 then
    .ok (storePixel (k.lut[(widen4to5 r).toNat]'(by have := widen4to5_lt r h.1; omega))
      (k.lut[32 + (widen4to6 g).toNat]'(by have := widen4to6_lt g h.2.1; omega))
      (k.lut[(widen4to5 b).toNat]'(by have := widen4to5_lt b h.2.2; omega)) k)
  else .error .pixel12Range

/-! ## The serial demultiplexer -/

/-- R231, `Demux18(b, phase)`. -/
def demux18 (b : Byte) (phase : Nat) (k : Block) : Except Fault Block :=
  match phase with
  | 0 => .ok { k with ifRed := channel18 b }
  | 1 => .ok { k with ifGreen := channel18 b }
  | _ => pixel18 k.ifRed k.ifGreen (channel18 b) { k with ifBlue := channel18 b }

/-- R232, `Demux16(b, phase)`. -/
def demux16 (b : Byte) (phase : Nat) (k : Block) : Except Fault Block :=
  match phase with
  | 0 => .ok { k with ifRed := red16 b, ifGreen := greenHigh16 b }
  | _ =>
    pixel16 k.ifRed (k.ifGreen ||| greenLow16 b) (blue16 b)
      { k with ifGreen := k.ifGreen ||| greenLow16 b, ifBlue := blue16 b }

/-- R233, `Demux12(b, phase)`; the first pixel is stored before the second pixel's red is latched. -/
def demux12 (b : Byte) (phase : Nat) (k : Block) : Except Fault Block :=
  match phase with
  | 0 => .ok { k with ifRed := highNibble b, ifGreen := lowNibble b }
  | 1 =>
    match pixel12 k.ifRed k.ifGreen (highNibble b) { k with ifBlue := highNibble b } with
    | .ok k' => .ok { k' with ifRed := lowNibble b }
    | .error e => .error e
  | _ =>
    pixel12 k.ifRed (highNibble b) (lowNibble b) { k with ifGreen := highNibble b, ifBlue := lowNibble b }

/-- R230, `SerialPixelByte(b)`: the format by `ifBpp[2:0]`, the role of the byte by `param` before its increment. -/
def serialPixelByte (b : Byte) (k : Block) : Except Fault Block :=
  match bitsPerPixel k.ifBpp with
  | some 18 => demux18 b (k.param.toNat % 3) k
  | some 16 => demux16 b (k.param.toNat % 2) k
  | some 12 => demux12 b (k.param.toNat % 3) k
  | _ => .ok k

/-- R179, `MemoryWriteByte(b)`, shared by 0x2C and 0x3C. -/
def memoryWriteByte (b : Byte) (k : Block) : Except Fault Block :=
  if k.configOnly then .ok k else serialPixelByte b k

/-! ## The pixel port (R239): not gated by `ifCtl`, `ifBpp`, `cmd` or `mode` -/

/-- PIX18 (R234). -/
def execPix18 (r g b : Byte) (s : State) : Outcome := onBlockChecked (pixel18 r g b) s

/-- PIX16 (R235). -/
def execPix16 (r g b : Byte) (s : State) : Outcome := onBlockChecked (pixel16 r g b) s

/-- PIX12 (R236). -/
def execPix12 (r g b : Byte) (s : State) : Outcome := onBlockChecked (pixel12 r g b) s

end Sys2Proof.Machine
end

