-- ==== Sys2Proof/Machine/Parameters.lean ====
section
/-! DEFINITION. The parameter frames (42_parameters.md): for each command of R99 its effect on the block and its instruction. -/

namespace Sys2Proof.Machine

/-- R171: the parameter index advances after every parameter frame, modulo 2^32. -/
def advanceParam (k : Block) : Block := { k with param := k.param + 1 }

/-- R170: a parameter frame whose effect always completes. -/
def paramFrame (effect : Block → Block) (k : Block) : Block := advanceParam (effect k)

/-- R170, R179: a parameter frame that carries a pixel byte. -/
def pixelParamFrame (b : Byte) (k : Block) : Except Fault Block :=
  match memoryWriteByte b k with
  | .ok k' => .ok (advanceParam k')
  | .error e => .error e

/-! ## The effects, each before the increment of R171 -/

/-- R174: the column window. -/
def casetEffect (b : Byte) (k : Block) : Block :=
  match wordIndex k.param with
  | 0 => { k with colStart := assemble9 k.colStart k.param b }
  | 1 => { k with colEnd := assemble9 k.colEnd k.param b }
  | _ => k

/-- R175: the row window. -/
def rasetEffect (b : Byte) (k : Block) : Block :=
  match wordIndex k.param with
  | 0 => { k with rowStart := assemble9 k.rowStart k.param b }
  | 1 => { k with rowEnd := assemble9 k.rowEnd k.param b }
  | _ => k

/-- R176: the partial-display window. -/
def ptlarEffect (b : Byte) (k : Block) : Block :=
  match wordIndex k.param with
  | 0 => { k with partialStart := assemble9 k.partialStart k.param b }
  | 1 => { k with partialEnd := assemble9 k.partialEnd k.param b }
  | _ => k

/-- R177: the scroll areas, in the order top, scroll, bottom. -/
def vscrdefEffect (b : Byte) (k : Block) : Block :=
  match wordIndex k.param with
  | 0 => { k with topArea := assemble9 k.topArea k.param b }
  | 1 => { k with scrollArea := assemble9 k.scrollArea k.param b }
  | 2 => { k with bottomArea := assemble9 k.bottomArea k.param b }
  | _ => k

/-- R181: the scroll start; every byte that is used sets SCROLL. -/
def vscrsaddEffect (b : Byte) (k : Block) : Block :=
  match wordIndex k.param with
  | 0 => { k with scrollStart := assemble9 k.scrollStart k.param b }.setMode .scroll true
  | _ => k

/-- R182: memory access control. -/
def madctlEffect (b : Byte) (k : Block) : Block := if k.param = 0 then { k with mac := b } else k

/-- R183: the interface bit depth. -/
def colmodEffect (b : Byte) (k : Block) : Block := if k.param = 0 then { k with ifBpp := b } else k

/-- R184: the interface control byte. -/
def ramctrlEffect (b : Byte) (k : Block) : Block := if k.param = 0 then { k with ifCtl := b } else k

/-- R185: the gamma curve. -/
def gamsetEffect (b : Byte) (k : Block) : Block := if k.param = 0 then { k with gamma := b } else k

/-- R186: gamma table 0. -/
def pvgamctrlEffect (b : Byte) (k : Block) : Block :=
  if h : k.param.toNat < 16 then { k with gammaTable0 := k.gammaTable0.set k.param.toNat b } else k

/-- R187: gamma table 1. -/
def nvgamctrlEffect (b : Byte) (k : Block) : Block :=
  if h : k.param.toNat < 16 then { k with gammaTable1 := k.gammaTable1.set k.param.toNat b } else k

/-- R188: a command without a parameter rule. -/
def otherEffect (_b : Byte) (k : Block) : Block := k

/-! ## The instructions -/

/-- A parameter of 0x2A CASET (R174). -/
def execCasetParam (b : Byte) (s : State) : Outcome := onBlock (paramFrame (casetEffect b)) s

/-- A parameter of 0x2B RASET (R175). -/
def execRasetParam (b : Byte) (s : State) : Outcome := onBlock (paramFrame (rasetEffect b)) s

/-- A parameter of 0x30 PTLAR (R176). -/
def execPtlarParam (b : Byte) (s : State) : Outcome := onBlock (paramFrame (ptlarEffect b)) s

/-- A parameter of 0x33 VSCRDEF (R177). -/
def execVscrdefParam (b : Byte) (s : State) : Outcome := onBlock (paramFrame (vscrdefEffect b)) s

/-- A parameter of 0x2C RAMWR (R178). -/
def execRamwrParam (b : Byte) (s : State) : Outcome := onBlockChecked (pixelParamFrame b) s

/-- A parameter of 0x3C RAMWRC (R180). -/
def execRamwrcParam (b : Byte) (s : State) : Outcome := onBlockChecked (pixelParamFrame b) s

/-- A parameter of 0x37 VSCRSADD (R181). -/
def execVscrsaddParam (b : Byte) (s : State) : Outcome := onBlock (paramFrame (vscrsaddEffect b)) s

/-- A parameter of 0x36 MADCTL (R182). -/
def execMadctlParam (b : Byte) (s : State) : Outcome := onBlock (paramFrame (madctlEffect b)) s

/-- A parameter of 0x3A COLMOD (R183). -/
def execColmodParam (b : Byte) (s : State) : Outcome := onBlock (paramFrame (colmodEffect b)) s

/-- A parameter of 0xB0 RAMCTRL (R184). -/
def execRamctrlParam (b : Byte) (s : State) : Outcome := onBlock (paramFrame (ramctrlEffect b)) s

/-- A parameter of 0x26 GAMSET (R185). -/
def execGamsetParam (b : Byte) (s : State) : Outcome := onBlock (paramFrame (gamsetEffect b)) s

/-- A parameter of 0xE0 PVGAMCTRL (R186). -/
def execPvgamctrlParam (b : Byte) (s : State) : Outcome := onBlock (paramFrame (pvgamctrlEffect b)) s

/-- A parameter of 0xE1 NVGAMCTRL (R187). -/
def execNvgamctrlParam (b : Byte) (s : State) : Outcome := onBlock (paramFrame (nvgamctrlEffect b)) s

/-- A parameter of a command without a parameter rule (R188). -/
def execOtherParam (b : Byte) (s : State) : Outcome := onBlock (paramFrame (otherEffect b)) s

end Sys2Proof.Machine
end

