-- ==== Sys2Proof/Machine/Ports.lean ====
section
/-! DEFINITION. The port interface (40_register_file.md): the register file, the LCD path of the data port with its serial
framing (R83, R123), and the refused accesses (R126, R127). -/

namespace Sys2Proof.Machine

/-- R140, R95: the effect of a command frame. -/
def commandFrame (op : Byte) (k : Block) : Block :=
  match op.toNat with
  | 0x00 => nopCmd k
  | 0x01 => swresetCmd k
  | 0x10 => slpinCmd k
  | 0x11 => slpoutCmd k
  | 0x12 => ptlonCmd k
  | 0x13 => noronCmd k
  | 0x20 => invoffCmd k
  | 0x21 => invonCmd k
  | 0x26 => gamsetCmd k
  | 0x28 => dispoffCmd k
  | 0x29 => disponCmd k
  | 0x2A => casetCmd k
  | 0x2B => rasetCmd k
  | 0x2C => ramwrCmd k
  | 0x30 => ptlarCmd k
  | 0x33 => vscrdefCmd k
  | 0x34 => teoffCmd k
  | 0x35 => teonCmd k
  | 0x36 => madctlCmd k
  | 0x37 => vscrsaddCmd k
  | 0x38 => idmoffCmd k
  | 0x39 => idmonCmd k
  | 0x3A => colmodCmd k
  | 0x3C => ramwrcCmd k
  | 0xB0 => ramctrlCmd k
  | 0xE0 => pvgamctrlCmd k
  | 0xE1 => nvgamctrlCmd k
  | _ => unassignedCmd op k

/-- R170, R99: the effect of a parameter frame under the current command. -/
def parameterFrame (b : Byte) (k : Block) : Except Fault Block :=
  match k.cmd.toNat with
  | 0x26 => .ok (paramFrame (gamsetEffect b) k)
  | 0x2A => .ok (paramFrame (casetEffect b) k)
  | 0x2B => .ok (paramFrame (rasetEffect b) k)
  | 0x2C => pixelParamFrame b k
  | 0x30 => .ok (paramFrame (ptlarEffect b) k)
  | 0x33 => .ok (paramFrame (vscrdefEffect b) k)
  | 0x36 => .ok (paramFrame (madctlEffect b) k)
  | 0x37 => .ok (paramFrame (vscrsaddEffect b) k)
  | 0x3A => .ok (paramFrame (colmodEffect b) k)
  | 0x3C => pixelParamFrame b k
  | 0xB0 => .ok (paramFrame (ramctrlEffect b) k)
  | 0xE0 => .ok (paramFrame (pvgamctrlEffect b) k)
  | 0xE1 => .ok (paramFrame (nvgamctrlEffect b) k)
  | _ => .ok (paramFrame (otherEffect b) k)

/-- R123, R129: run a dispatched frame. -/
def runFrame (f : U9) (k : Block) : Except Fault Block :=
  if frameIsParameter f then parameterFrame (frameByte f) k else .ok (commandFrame (frameByte f) k)

/-- R123, `LcdShift(v)`: shift three bits in; a completed frame runs after the register is back at its sentinel. -/
def lcdShift (v : Byte) (k : Block) : Except Fault Block :=
  if (shiftIn k.fifo v).getLsbD 9 then runFrame ((shiftIn k.fifo v).truncate 9) { k with fifo := 1 }
  else .ok { k with fifo := shiftIn k.fifo v }

/-! ## The frame as an operation (R83, R109; log 2) -/

/-- R109: port 0x18 is the LCD path and the shift register is at its sentinel, so that the next three writes carry a frame. -/
def Block.frameReady (k : Block) : Bool := decide (k.route = 0) && decide (k.fifo = 1)

/-- R83: the operations as they are due. Three writes from a ready state are taken as the one frame they carry, which is what
they do (R93, R123); anywhere else a frame is no more than its three writes, which shift, dispatch or are refused as any other
writes at that phase and on that route. -/
def Block.due (k : Block) : List Op → List Op
  | .frame f :: rest => if k.frameReady then .frame f :: rest else frameWrites f ++ rest
  | ops => ops

/-- The block that an operation placed as a table word finds: for a frame the LCD path and the sentinel that R109 assumes
(log 3). -/
def Block.madeReadyFor (k : Block) : Op → Block
  | .frame _ => { k.writeReg 0x12 0 with fifo := 1 }
  | _ => k

/-! ## The instructions -/

/-- OUT to regs[0x00..0x0F] (R120). -/
def execOutRegsLow (p : BitVec 4) (v : Byte) (s : State) : Outcome := onBlock (fun k => k.writeReg (lowRegIndex p) v) s

/-- OUT to regs[0x10..0x17] (R120). -/
def execOutRegsHigh (p : BitVec 3) (v : Byte) (s : State) : Outcome := onBlock (fun k => k.writeReg (highRegIndex p) v) s

/-- IN or PEEK of regs[0x00..0x0F] (R121). -/
def execInRegsLow (p : BitVec 4) (_peek : Bool) (s : State) : Outcome :=
  returnByte (fun k => (k.readReg (lowRegIndex p), k)) s

/-- IN or PEEK of regs[0x10..0x17] (R121). -/
def execInRegsHigh (p : BitVec 3) (_peek : Bool) (s : State) : Outcome :=
  returnByte (fun k => (k.readReg (highRegIndex p), k)) s

/-- OUT 0x18 on the LCD path (R123). -/
def execOutLcd (v : Byte) (s : State) : Outcome := onBlockChecked (lcdShift v) s

/-- IN or PEEK of 0x18 on the LCD path: always 0 (R125). -/
def execInLcd (_peek : Bool) (s : State) : Outcome := returnByte (fun k => (0, k)) s

/-- OUT 0x18 with another routing value (R126). -/
def execOutRouteOther (_v : Byte) (s : State) : Outcome := refuse .route s

/-- IN or PEEK of 0x18 with another routing value (R126). -/
def execInRouteOther (_peek : Bool) (s : State) : Outcome := refuse .route s

/-- An access to an offset above 0x18 (R127). -/
def execPortAbove (_port : U16) (_access : PortAccess) (s : State) : Outcome := refuse .port s

end Sys2Proof.Machine
end

