-- ==== Sys2Proof/Machine/Raster.lean ====
section
/-! DEFINITION. The raster scan (43_raster_scan.md): row evaluation, HSYNC and VSYNC. -/

namespace Sys2Proof.Machine

/-- A 9-bit field as the u16 of the scan arithmetic. -/
def wide (x : U9) : U16 := x.zeroExtend 16

/-- R212: the row lies outside the partial-display band, which wraps when start > end. -/
def outsidePartial (k : Block) (t : U16) : Bool :=
  if k.partialEnd < k.partialStart then decide (t < wide k.partialStart) && decide (wide k.partialEnd < t)
  else decide (t < wide k.partialStart) || decide (wide k.partialEnd < t)

/-- R213: the bottom of the scroll band, `NUM_ROWS - bottomArea` on u16. -/
def scrollBottom (k : Block) : U16 := 320#16 - wide k.bottomArea

/-- R213: the source row of scan row `t` before the mirror: one conditional subtraction, then the 9-bit mask. -/
def scrollRow (k : Block) (t : U16) : U16 :=
  if k.modeFlag .scroll && decide (wide k.topArea ≤ t) && decide (t < scrollBottom k) then
    (let moved := t + wide k.scrollStart - wide k.topArea
     (if scrollBottom k ≤ moved then moved - (scrollBottom k - wide k.topArea) else moved) &&& 0x1FF#16)
  else t

/-- R214: a row reflected about the last row when the vertical mirror is set, on u16. -/
def mirrorRow (k : Block) (x : U16) : U16 := if k.macFlag .vro then 319#16 - x else x

/-- R210 to R215, `EvalRow(t)`: false, with only IGNORE set, for a row past the last; else the row's scan state and true. -/
def evalRow (t : U16) (k : Block) : Bool × Block :=
  if Config.lastRow < t.toNat then (false, k.setMode .ignore true)
  else
    (true,
      { (k.setMode .ignore false).setMode .blank (k.modeFlag .partialOn && outsidePartial k t) with
        row := t
        dstRow := mirrorRow k t
        srcRow := mirrorRow k (scrollRow k t)
        col := if k.macFlag .hro then 239 else 0
        colDir := if k.macFlag .hro then .backward else .forward })

/-- R216, `hsync()`. -/
def hsync (k : Block) : Bool × Block := evalRow (k.row + 1) k

/-- R217, `vsync()`: in configuration mode the cursor goes back to the window start first. -/
def vsync (k : Block) : Bool × Block := evalRow 0 (if k.configOnly then cursorReset k else k)

/-- HSYNC (R216). -/
def execHsync (s : State) : Outcome := returnFlag hsync s

/-- VSYNC (R217). -/
def execVsync (s : State) : Outcome := returnFlag vsync s

end Sys2Proof.Machine
end

