-- ==== Sys2Proof/Machine/Refresh.lean ====
section
/-! DEFINITION. Refresh (44_pixel_pipeline.md R240 to R244): the colour of a pixel, the output write, the column advance. -/

namespace Sys2Proof.Machine

/-- A colour, red first. -/
abbrev Colour := Byte × Byte × Byte

/-- R241: refresh shows the blank colour. -/
def showsBlank (k : Block) : Bool := k.modeFlag .sleep || k.modeFlag .off || k.modeFlag .blank

/-- R240: the pixel comes from the noise source. -/
def showsNoise (k : Block) : Bool := !showsBlank k && decide (Config.numRows ≤ k.srcRow.toNat)

/-- R241, `BlankColour()`. -/
def blankColour : Colour := (0xFF, 0xFF, 0xFF)

/-- R242, `Noise()`: three draws, red first; `n` is the number of draws made before. -/
def noiseColour (n : Nat) : Colour := (Config.noise n, Config.noise (n + 1), Config.noise (n + 2))

/-- R243: swap red and blue when the colour-order bit is set. -/
def orderColour (k : Block) (c : Colour) : Colour := if k.macFlag .bgr then (c.2.2, c.2.1, c.1) else c

/-- R243: invert every channel when INVERT is set. -/
def invertColour (k : Block) (c : Colour) : Colour :=
  if k.modeFlag .invert then (c.1 ^^^ 0xFF#8, c.2.1 ^^^ 0xFF#8, c.2.2 ^^^ 0xFF#8) else c

/-- R243: a channel in idle mode, its top bit in every place. -/
def idleChannel (c : Byte) : Byte := if c.getLsbD 7 then 0xFF else 0x00

/-- R243: reduce every channel when IDLE is set. -/
def idleColour (k : Block) (c : Colour) : Colour :=
  if k.modeFlag .idle then (idleChannel c.1, idleChannel c.2.1, idleChannel c.2.2) else c

/-- R243: the stored triplet at the scan position. -/
def gramTriplet (k : Block) : Colour :=
  (k.frameLane k.srcRow.toNat k.col.toNat 0, k.frameLane k.srcRow.toNat k.col.toNat 1,
    k.frameLane k.srcRow.toNat k.col.toNat 2)

/-- R243, `GramRead()`: swap, then invert, then idle. -/
def gramColour (k : Block) : Colour := idleColour k (invertColour k (orderColour k (gramTriplet k)))

/-- R240: the colour of the pixel being refreshed; `n` counts the noise draws made before. -/
def pixelColour (k : Block) (n : Nat) : Colour :=
  if showsBlank k then blankColour else if showsNoise k then noiseColour n else gramColour k

/-- R240, R244: the draws made after this pixel. -/
def drawsAfter (k : Block) (n : Nat) : Nat := if showsNoise k then n + 3 else n

/-- R41, R73: the scan position is a cell of the output buffer. -/
def onDisplay (k : Block) : Bool :=
  decide (k.col.toNat < Config.numCols) && decide (k.dstRow.toNat < Config.numRows)

/-- R244: write the pixel with full alpha. Outside the output buffer there is no cell and none is written (log 10). -/
def writePixel (c : Colour) (k : Block) : Block :=
  if onDisplay k then k.putDisplay k.col.toNat k.dstRow.toNat c.1 c.2.1 c.2.2 else k

/-- R240: the column advance, which ends the line when the column passes the last. -/
def advanceColumn (k : Block) : Bool × Block :=
  if Config.lastCol < (stepColumn k.col k.colDir).toNat then
    (false, { k with col := stepColumn k.col k.colDir }.setMode .ignore true)
  else (true, { k with col := stepColumn k.col k.colDir })

/-- R240: a refresh of a line that is not ignored. -/
def refreshActive (n : Nat) (k : Block) : Bool × Block := advanceColumn (writePixel (pixelColour k n) k)

/-- REFRESH, `refreshPixel()` (R240). -/
def execRefresh (s : State) : Outcome :=
  if s.block.modeFlag .ignore then returnFlag (fun k => (false, k)) s
  else returnFlag (refreshActive s.draws) { s with draws := drawsAfter s.block s.draws }

end Sys2Proof.Machine
end

