-- ==== Sys2Proof/Machine/Snapshot.lean ====
section
/-! DEFINITION. The snapshot (47_revision_snapshot.md R304 to R307). The record is the block; the host's stream is a field of
the state, and whether it takes or gives a whole record is the operand (log 9). -/

namespace Sys2Proof.Machine

/-- R304: what the stream holds after a put. -/
def streamAfterSave (ioOk : Bool) (s : State) : Option Block := if ioOk then some s.block else s.stream

/-- R305: the record a get delivers, if it delivers a whole one. -/
def streamRecord (ioOk : Bool) (s : State) : Option Block := if ioOk then s.stream else none

/-- SAVE (R304): nothing in the block changes; the returned flag says whether the stream took the record. -/
def execSave (ioOk : Bool) (s : State) : Outcome :=
  .next { s with stream := streamAfterSave ioOk s, result := some (.flag ioOk) }

/-- RESTORE (R305): all of the block or nothing; the revision state is kept (R306). -/
def execRestore (ioOk : Bool) (s : State) : Outcome :=
  match streamRecord ioOk s with
  | some record => .next { s with block := record, result := some (.flag true) }
  | none => .next { s with result := some (.flag false) }

end Sys2Proof.Machine
end

