-- ==== Sys2Proof/Machine/Dispatch.lean ====
section
/-! DEFINITION. The dispatch of an instruction to its meaning, one arm a constructor. -/

namespace Sys2Proof.Machine

def exec (i : Instr) (s : State) : Host.Outcome State Fault Refusal :=
  match i with
  | .outRegsLow p v => Sys2Proof.Machine.execOutRegsLow p v s
  | .outRegsHigh p v => Sys2Proof.Machine.execOutRegsHigh p v s
  | .inRegsLow p peek => Sys2Proof.Machine.execInRegsLow p peek s
  | .inRegsHigh p peek => Sys2Proof.Machine.execInRegsHigh p peek s
  | .outLcd v => Sys2Proof.Machine.execOutLcd v s
  | .outMassStorage v => Sys2Proof.Machine.execOutMassStorage v s
  | .outMassStorageAbsent v => Sys2Proof.Machine.execOutMassStorageAbsent v s
  | .outRouteOther v => Sys2Proof.Machine.execOutRouteOther v s
  | .inLcd peek => Sys2Proof.Machine.execInLcd peek s
  | .inMassStorage peek => Sys2Proof.Machine.execInMassStorage peek s
  | .inMassStorageAbsent peek => Sys2Proof.Machine.execInMassStorageAbsent peek s
  | .inRouteOther peek => Sys2Proof.Machine.execInRouteOther peek s
  | .portAbove port access => Sys2Proof.Machine.execPortAbove port access s
  | .nop => Sys2Proof.Machine.execNop s
  | .swreset => Sys2Proof.Machine.execSwreset s
  | .slpin => Sys2Proof.Machine.execSlpin s
  | .slpout => Sys2Proof.Machine.execSlpout s
  | .ptlon => Sys2Proof.Machine.execPtlon s
  | .noron => Sys2Proof.Machine.execNoron s
  | .invoff => Sys2Proof.Machine.execInvoff s
  | .invon => Sys2Proof.Machine.execInvon s
  | .gamset => Sys2Proof.Machine.execGamset s
  | .dispoff => Sys2Proof.Machine.execDispoff s
  | .dispon => Sys2Proof.Machine.execDispon s
  | .caset => Sys2Proof.Machine.execCaset s
  | .raset => Sys2Proof.Machine.execRaset s
  | .ramwr => Sys2Proof.Machine.execRamwr s
  | .ptlar => Sys2Proof.Machine.execPtlar s
  | .vscrdef => Sys2Proof.Machine.execVscrdef s
  | .teoff => Sys2Proof.Machine.execTeoff s
  | .teon => Sys2Proof.Machine.execTeon s
  | .madctl => Sys2Proof.Machine.execMadctl s
  | .vscrsadd => Sys2Proof.Machine.execVscrsadd s
  | .idmoff => Sys2Proof.Machine.execIdmoff s
  | .idmon => Sys2Proof.Machine.execIdmon s
  | .colmod => Sys2Proof.Machine.execColmod s
  | .ramwrc => Sys2Proof.Machine.execRamwrc s
  | .ramctrl => Sys2Proof.Machine.execRamctrl s
  | .pvgamctrl => Sys2Proof.Machine.execPvgamctrl s
  | .nvgamctrl => Sys2Proof.Machine.execNvgamctrl s
  | .unassigned op => Sys2Proof.Machine.execUnassigned op s
  | .casetParam b => Sys2Proof.Machine.execCasetParam b s
  | .rasetParam b => Sys2Proof.Machine.execRasetParam b s
  | .ptlarParam b => Sys2Proof.Machine.execPtlarParam b s
  | .vscrdefParam b => Sys2Proof.Machine.execVscrdefParam b s
  | .ramwrParam b => Sys2Proof.Machine.execRamwrParam b s
  | .ramwrcParam b => Sys2Proof.Machine.execRamwrcParam b s
  | .vscrsaddParam b => Sys2Proof.Machine.execVscrsaddParam b s
  | .madctlParam b => Sys2Proof.Machine.execMadctlParam b s
  | .colmodParam b => Sys2Proof.Machine.execColmodParam b s
  | .ramctrlParam b => Sys2Proof.Machine.execRamctrlParam b s
  | .gamsetParam b => Sys2Proof.Machine.execGamsetParam b s
  | .pvgamctrlParam b => Sys2Proof.Machine.execPvgamctrlParam b s
  | .nvgamctrlParam b => Sys2Proof.Machine.execNvgamctrlParam b s
  | .otherParam b => Sys2Proof.Machine.execOtherParam b s
  | .hsync => Sys2Proof.Machine.execHsync s
  | .vsync => Sys2Proof.Machine.execVsync s
  | .refresh => Sys2Proof.Machine.execRefresh s
  | .pix18 r g b => Sys2Proof.Machine.execPix18 r g b s
  | .pix16 r g b => Sys2Proof.Machine.execPix16 r g b s
  | .pix12 r g b => Sys2Proof.Machine.execPix12 r g b s
  | .reset => Sys2Proof.Machine.execReset s
  | .setdev t => Sys2Proof.Machine.execSetdev t s
  | .setrev r => Sys2Proof.Machine.execSetrev r s
  | .save ioOk => Sys2Proof.Machine.execSave ioOk s
  | .restore ioOk => Sys2Proof.Machine.execRestore ioOk s

end Sys2Proof.Machine
end

