-- ==== Sys2Proof/Machine/Step.lean ====
section
/-! DEFINITION. One step: the next operation of the total order of R80 is taken, decoded in the state's context, and run. -/

namespace Sys2Proof.Machine

/-- The state in which an operation runs: the operation is off the list and nothing is returned yet (log 1, log 4). -/
def State.taken (s : State) (rest : List Op) : State := { s with pending := rest, result := none }

/-- One step. A frame that is not ready is due as its three port writes (R83; log 2). With no operation issued the block does
nothing (R358; log 1). -/
def step (s : State) : Host.Outcome State Fault Refusal :=
  match s.block.due s.pending with
  | [] => .next s
  | op :: rest => exec (decodeOp s.context op) (s.taken rest)

/-- The state with the operation of a table word placed as the next one to be taken, and ready for it (log 1, log 3). -/
def State.withFetchWord (s : State) (nbits w : Nat) : State :=
  match decodeTable nbits w with
  | .ok op => { s with pending := op :: s.pending, block := s.block.madeReadyFor op }
  | .error _ => s

end Sys2Proof.Machine
end

