-- ==== Sys2Proof/Safety.lean ====
section
/-! DEFINITION. The terms the claims use: the invariants of a run, what a run is, and the rules' arithmetic written on natural
numbers, apart from the bit operations of the meanings. -/

namespace Sys2Proof.Machine

/-! ## Invariants -/

/-- R22: between operations the shift register holds the sentinel alone, or one or two groups of three bits behind it. -/
def Block.FifoOk (k : Block) : Prop :=
  k.fifo.toNat = 1 ∨ (8 ≤ k.fifo.toNat ∧ k.fifo.toNat ≤ 15) ∨ (64 ≤ k.fifo.toNat ∧ k.fifo.toNat ≤ 127)

/-- R109: a frame can be carried by the next three writes: port 0x18 is the LCD path, the shift register at its sentinel. -/
abbrev Block.FrameReady (k : Block) : Prop := k.regs[0x12] = 0 ∧ k.fifo = 1

/-- The number of lanes of `frame`, and of `display` (R40, R41). -/
def laneCount : Nat := 307200

/-- Every listed address is a lane of the array. -/
def Memory.Within (m : Memory) : Prop := ∀ c ∈ m, c.1 < laneCount

/-- R40: lane 3 of a GRAM cell is never written, so it is never listed. -/
def Memory.NoAlpha (m : Memory) : Prop := ∀ c ∈ m, c.1 % 4 ≠ 3

/-- R231 to R233, R321: while pixel bytes are being taken, each accumulator that the next byte hands to an entry point is in
the range of that entry point. -/
def Block.SerialOk (k : Block) : Prop :=
  (k.cmd = 0x2C ∨ k.cmd = 0x3C) → k.configOnly = false →
    (bitsPerPixel k.ifBpp = some 18 →
      (k.param.toNat % 3 ≠ 0 → k.ifRed.toNat < 64) ∧ (k.param.toNat % 3 = 2 → k.ifGreen.toNat < 64)) ∧
    (bitsPerPixel k.ifBpp = some 16 → k.param.toNat % 2 = 1 → k.ifRed.toNat < 32 ∧ k.ifGreen.toNat < 64) ∧
    (bitsPerPixel k.ifBpp = some 12 →
      (k.param.toNat % 3 ≠ 0 → k.ifRed.toNat < 16) ∧ (k.param.toNat % 3 = 1 → k.ifGreen.toNat < 16))

/-- What every operation keeps of a block. -/
structure Block.Inv (k : Block) : Prop where
  /-- R22. -/
  fifo : k.FifoOk
  /-- Canonical form of the two lane memories. -/
  frameWf : k.frame.wf
  displayWf : k.display.wf
  /-- R40, R41: nothing is listed outside the arrays. -/
  frameWithin : k.frame.Within
  displayWithin : k.display.Within
  /-- R40. -/
  frameNoAlpha : k.frame.NoAlpha
  /-- R211, R216: `row` never passes the last row. -/
  row : k.row.toNat ≤ Config.lastRow
  /-- R73, R244. -/
  dstRow : k.dstRow.toNat ≤ Config.lastRow
  /-- R31, R266: an exhausted cursor stands at the sentinel. -/
  sentinel : k.exhausted = true → k.rowReg = 0x1FF ∧ k.colReg = 0xFF
  /-- R283: the response view stays inside the response. -/
  view : k.dataOffset + k.dataLength ≤ Config.inquiryLength
  /-- R39: no operation writes the table outside power-on. -/
  lut : k.lut = lutTable
  /-- R284, R288: the last three status bytes and the index are never written but with 0. -/
  cswTail : k.csw[13] = 0 ∧ k.csw[14] = 0 ∧ k.csw[15] = 0
  cswIndex : k.cswIndex = 0
  /-- R321. -/
  serial : k.SerialOk

/-- The invariant of a state: of the block, and of the record the stream holds, which a restore puts in its place (R305). -/
def State.Inv (s : State) : Prop := s.block.Inv ∧ ∀ record, s.stream = some record → record.Inv

/-! ## Runs -/

/-- `n` steps, stopping at the first fault or refusal. -/
def run (n : Nat) (s : State) : Outcome := Sys2Proof.core.run n s

/-! ## The rules' arithmetic on natural numbers -/

/-- R103: a 9-bit field after its high byte (bit 0 of it goes to bit 8) or its low byte. -/
def word9 (x : U9) (high : Bool) (b : Byte) : U9 :=
  BitVec.ofNat 9 (if high then b.toNat % 2 * 256 + x.toNat % 256 else x.toNat / 256 * 256 + b.toNat)

/-- R103: what a full pair (high byte, low byte) leaves in a 9-bit field. -/
def pair9 (h l : Byte) : U9 := BitVec.ofNat 9 ((h.toNat * 256 + l.toNat) % 512)

/-- R237, `E6`, on a channel below 64. -/
def replicate6 (v : Byte) : Byte := BitVec.ofNat 8 (v.toNat * 4 + v.toNat / 16)

/-- R243: one channel inverted when INVERT is set, then reduced to its top bit when IDLE is set. -/
def shownChannel (mode c : Byte) : Byte :=
  if mode.getLsbD 3 then (if c.getLsbD 7 = mode.getLsbD 2 then 0x00 else 0xFF)
  else if mode.getLsbD 2 then BitVec.ofNat 8 (255 - c.toNat) else c

/-- R213: the source row of scan row `t` before the mirror, with u16 wrap-around. -/
def scrolledRow (k : Block) (t : Nat) : Nat :=
  let top := k.topArea.toNat
  let bottom := (65536 + 320 - k.bottomArea.toNat) % 65536
  let moved := t + k.scrollStart.toNat - top
  if k.mode.getLsbD 5 = true ∧ top ≤ t ∧ t < bottom then (if bottom ≤ moved then moved - (bottom - top) else moved) % 512
  else t

/-- R212: scan row `t` is blanked. -/
def blankedRow (k : Block) (t : Nat) : Prop :=
  k.mode.getLsbD 4 = true ∧
    if k.partialEnd.toNat < k.partialStart.toNat then k.partialEnd.toNat < t ∧ t < k.partialStart.toNat
    else t < k.partialStart.toNat ∨ k.partialEnd.toNat < t

/-- R214: a row after the vertical mirror, with u16 wrap-around. -/
def mirrored (k : Block) (x : Nat) : Nat := if k.mac.getLsbD 4 then (65536 + 319 - x) % 65536 else x

/-- R211 to R215: the block after the evaluation of row `r`, at most 319, with `mode'` in its mode byte. -/
def rowEvaluated (k : Block) (r : Nat) (mode' : Byte) : Block :=
  { k with
    mode := mode'
    row := BitVec.ofNat 16 r
    dstRow := BitVec.ofNat 16 (mirrored k r)
    srcRow := BitVec.ofNat 16 (mirrored k (scrolledRow k r))
    col := if k.mac.getLsbD 2 then 239 else 0
    colDir := if k.mac.getLsbD 2 then .backward else .forward }

/-- R211, R212: the mode byte after the evaluation of row `r`: BLANK by the partial window, IGNORE clear, the rest kept. -/
def RowMode (k : Block) (r : Nat) (mode' : Byte) : Prop :=
  (mode'.getLsbD 6 = true ↔ blankedRow k r) ∧ mode'.getLsbD 7 = false ∧
    ∀ j < 6, mode'.getLsbD j = k.mode.getLsbD j

/-- R262, R267: `t` is `s` after the triplet (r, g, b) is stored at the cursor: dropped while exhausted; else only the GRAM
and the cursor may differ, lanes 0 to 2 of the cursor's cell hold the triplet when that cell is in the GRAM, and every other
byte of the GRAM reads as before. -/
def StoresAtCursor (s t : State) (r g b : Byte) : Prop :=
  (s.block.exhausted = true → t = s) ∧
  t = { s with block := { s.block with
    frame := t.block.frame, rowReg := t.block.rowReg, colReg := t.block.colReg, exhausted := t.block.exhausted } } ∧
  (s.block.exhausted = false → s.block.rowReg.toNat < 320 → s.block.colReg.toNat < 240 →
    t.block.frame.read (frameAddr s.block.rowReg.toNat s.block.colReg.toNat 0) = r ∧
    t.block.frame.read (frameAddr s.block.rowReg.toNat s.block.colReg.toNat 1) = g ∧
    t.block.frame.read (frameAddr s.block.rowReg.toNat s.block.colReg.toNat 2) = b ∧
    ∀ x, (∀ lane < 3, x ≠ frameAddr s.block.rowReg.toNat s.block.colReg.toNat lane) →
      t.block.frame.read x = s.block.frame.read x) ∧
  (320 ≤ s.block.rowReg.toNat ∨ 240 ≤ s.block.colReg.toNat → t.block.frame = s.block.frame)

/-- R263 to R266: `k'` has the cursor of `k`, which is not exhausted, one pixel on. Without row/column exchange the column is
the fast axis (mask 0xFF, reversed by `mac` bit 6); with it the row is (mask 0x1FF, reversed by bit 7). At the fast end the
fast axis returns to its start and the slow axis steps; at both ends of a window that is not inverted the cursor parks at the
sentinel. (Bit places and the reverse bit: log 12.) -/
def CursorAdvanced (k k' : Block) : Prop :=
  (k.mac.getLsbD 5 = false →
    (k.colReg ≠ k.colEnd → k'.exhausted = false ∧ k'.rowReg = k.rowReg ∧
      k'.colReg.toNat = (k.colReg.toNat + if k.mac.getLsbD 6 then 255 else 1) % 256) ∧
    (k.colReg = k.colEnd → k.rowReg = k.rowEnd → k.colStart.toNat ≤ k.colEnd.toNat → k.rowStart.toNat ≤ k.rowEnd.toNat →
      k'.exhausted = true ∧ k'.rowReg = 0x1FF ∧ k'.colReg = 0xFF) ∧
    (k.colReg = k.colEnd →
      (k.rowReg ≠ k.rowEnd ∨ k.colEnd.toNat < k.colStart.toNat ∨ k.rowEnd.toNat < k.rowStart.toNat) →
      k'.exhausted = false ∧ k'.colReg = k.colStart ∧ k'.rowReg.toNat = (k.rowReg.toNat + 1) % 512)) ∧
  (k.mac.getLsbD 5 = true →
    (k.rowReg ≠ k.colEnd → k'.exhausted = false ∧ k'.colReg = k.colReg ∧
      k'.rowReg.toNat = (k.rowReg.toNat + if k.mac.getLsbD 7 then 511 else 1) % 512) ∧
    (k.rowReg = k.colEnd → k.colReg = k.rowEnd → k.colStart.toNat ≤ k.colEnd.toNat → k.rowStart.toNat ≤ k.rowEnd.toNat →
      k'.exhausted = true ∧ k'.rowReg = 0x1FF ∧ k'.colReg = 0xFF) ∧
    (k.rowReg = k.colEnd →
      (k.colReg ≠ k.rowEnd ∨ k.colEnd.toNat < k.colStart.toNat ∨ k.rowEnd.toNat < k.rowStart.toNat) →
      k'.exhausted = false ∧ k'.rowReg = k.colStart ∧ k'.colReg.toNat = (k.colReg.toNat + 1) % 256))

/-- R231 to R233: the next pixel byte completes a pixel: the third of three at 18 bits per pixel, the second of two at 16, the
second and the third of three at 12 (codes: log 12); none does in configuration mode (R179) or at another depth (R230). -/
abbrev Block.ByteCompletes (k : Block) : Prop :=
  k.ifCtl.getLsbD 4 = false ∧
    ((k.ifBpp.toNat % 8 = 6 ∧ k.param.toNat % 3 = 2) ∨ (k.ifBpp.toNat % 8 = 5 ∧ k.param.toNat % 2 = 1) ∨
      (k.ifBpp.toNat % 8 = 3 ∧ k.param.toNat % 3 ≠ 0))

/-! ## What no rule reads -/

/-- The state with every element overwritten that no rule reads: `scrollArea` (R29), `gamma` (R36), the gamma tables (R37),
`display` (R84), `tear` (R42), `csw` and `cswIndex` (R288), and `deviceType` (R10). -/
def State.unreadErased (s : State) : State :=
  { s with
    deviceType := .variantA
    block := { s.block with
      scrollArea := 0, gamma := 0, gammaTable0 := Vector.replicate 16 0, gammaTable1 := Vector.replicate 16 0,
      display := [], tear := false, csw := Vector.replicate 16 0, cswIndex := 0 } }

/-- Two outcomes that agree on all but the elements no rule reads. -/
def Outcome.AgreeOnRead : Outcome → Outcome → Prop
  | .next t, .next u => t.unreadErased = u.unreadErased
  | .fault e, .fault f => e = f
  | .refused p, .refused q => p = q
  | _, _ => False

end Sys2Proof.Machine
end

