-- ==== Sys2Proof/Certificates/Slice0/Obligations.lean ====
section
/-! DEFINITION. The statements about the model, from the numbered rules of spec/. Each docstring names the rules. A statement
whose conclusion is an equality `exec i s = .next …` also says what the instruction leaves unchanged: everything the record
update does not name. -/

open Sys2Proof Sys2Proof.Machine

/-! ## Encodings -/

/-- R71, R90 to R95, R99: every well-formed instruction that the context selects is read back from its encoding, with every
operand at every value. -/
def Obligations.DecodeInvertsEncode : Prop :=
  ∀ (x : Context) (i : Instr), i.wellFormed = true → i.selectedBy x = true → decodeOp x (encode i) = i

/-- R98, R129: every operation is one row: what it decodes to is well formed, is selected by the context, and is written as
that operation. -/
def Obligations.EveryOperationIsOneRow : Prop :=
  ∀ (x : Context) (op : Op),
    (decodeOp x op).wellFormed = true ∧ (decodeOp x op).selectedBy x = true ∧ encode (decodeOp x op) = op

/-- R71, R91, R92, R95, R99: a few words written out from the encodings. -/
def Obligations.WrittenWordsDecode : Prop :=
  decodeOp ⟨0, false, 0⟩ (.portWrite 0b0000000000000101 0xA5) = .outRegsLow 5 0xA5 ∧
  decodeOp ⟨0, false, 0⟩ (.portRead 0b0000000000010010 true) = .inRegsHigh 2 true ∧
  decodeOp ⟨0, false, 0⟩ (.portWrite 0b0000000000011000 7) = .outLcd 7 ∧
  decodeOp ⟨1, true, 0⟩ (.portRead 0b0000000000011000 false) = .inMassStorage false ∧
  decodeOp ⟨1, false, 0⟩ (.portWrite 0b0000000000011000 9) = .outMassStorageAbsent 9 ∧
  decodeOp ⟨2, true, 0⟩ (.portRead 0b0000000000011000 false) = .inRouteOther false ∧
  decodeOp ⟨0, false, 0⟩ (.portRead 0b0000000000011001 false) = .portAbove 0x19 (.read false) ∧
  decodeOp ⟨0, false, 0x55⟩ (.frame 0b000101010) = .caset ∧
  decodeOp ⟨0, false, 0x55⟩ (.frame 0b011100001) = .nvgamctrl ∧
  decodeOp ⟨0, false, 0x2A⟩ (.frame 0b111101111) = .casetParam 0xEF ∧
  decodeOp ⟨0, false, 0x29⟩ (.frame 0b101010101) = .otherParam 0x55 ∧
  decodeTableWord 16 0x02A = some .caset

/-- R93: bits 2:0 of the three written bytes are frame bits 8:6, 5:3 and 2:0 and no other bit matters; the canonical writes
carry the frame; and the rule's two examples. -/
def Obligations.ThreeWritesCarryAFrame : Prop :=
  (∀ (w0 w1 w2 : Byte), ∀ j < 3,
    (frameOfWrites w0 w1 w2).getLsbD (6 + j) = w0.getLsbD j ∧
    (frameOfWrites w0 w1 w2).getLsbD (3 + j) = w1.getLsbD j ∧
    (frameOfWrites w0 w1 w2).getLsbD j = w2.getLsbD j) ∧
  (∀ f : U9, frameOfWrites (frameWrite0 f) (frameWrite1 f) (frameWrite2 f) = f ∧
    (frameWrite0 f).toNat = f.toNat / 64 ∧ (frameWrite1 f).toNat = f.toNat / 8 % 8 ∧ (frameWrite2 f).toNat = f.toNat % 8 ∧
    (frameWrite0 f).getLsbD 2 = f.getLsbD 8) ∧
  frameOfWrites 0 5 2 = commandFrameBits 0x2A ∧ frameOfWrites 7 5 7 = parameterFrameBits 0xEF

/-! ## Steps and the serial path -/

/-- R80, R83, R109: a step takes the next operation, decodes it in the state's context and runs it. A frame is such an operation
where R109 assumes it, on the LCD path with the shift register at its sentinel; anywhere else a step takes the first of the
three writes that the frame is. With no operation issued nothing happens (the list of operations and the idle step are the
model's choice, log 1; the frame as an operation, log 2). -/
def Obligations.StepRunsTheDecodedInstruction : Prop :=
  (∀ (s : State) (op : Op) (rest : List Op), s.pending = op :: rest → (∀ f, op = .frame f → s.block.FrameReady) →
    step s = exec (decodeOp { route := s.block.regs[0x12], revisionM := decide (s.effectiveRevision = .m), cmd := s.block.cmd } op)
      { s with pending := rest, result := none }) ∧
  (∀ (s : State) (f : U9) (rest : List Op), s.pending = .frame f :: rest → ¬ s.block.FrameReady →
    let writes : List Op := [.portWrite 0x18 (BitVec.ofNat 8 (f.toNat / 64)),
      .portWrite 0x18 (BitVec.ofNat 8 (f.toNat / 8 % 8)), .portWrite 0x18 (BitVec.ofNat 8 (f.toNat % 8))]
    step s = step { s with pending := writes ++ rest }) ∧
  ∀ s : State, s.pending = [] → step s = .next s

/-- A table word placed by `withFetchWord` is what the next step runs: an operation in the state's context, a frame on the LCD
path from the sentinel; and right after reset it is the instruction that `decodeTableWord` reads (the model's convention,
log 3). -/
def Obligations.PlacedWordRunsNext : Prop :=
  (∀ (s : State) (nbits w : Nat) (op : Op), decodeTable nbits w = .ok op → (∀ f, op ≠ .frame f) →
    step (s.withFetchWord nbits w) = exec (decodeOp s.context op) { s with result := none }) ∧
  (∀ (s : State) (nbits w : Nat) (f : U9), decodeTable nbits w = .ok (.frame f) →
    step (s.withFetchWord nbits w) = exec (decodeFrame s.block.cmd f)
      { s with result := none, block := { s.block with regs := s.block.regs.set 0x12 0, fifo := 1 } }) ∧
  ∀ (nbits w : Nat) (i : Instr), decodeTableWord nbits w = some i →
    step (State.reset.withFetchWord nbits w) = exec i State.reset

/-- R123: an LCD-path write shifts three bits in and changes nothing else, until bit 9 is set; then the register goes back to
its sentinel and the frame runs. -/
def Obligations.LcdWriteShiftsThenDispatches : Prop :=
  ∀ (s : State) (v : Byte),
    ((s.block.fifo.toNat * 8 + v.toNat % 8) % 1024 < 512 →
      exec (.outLcd v) s = .next { s with block := { s.block with
        fifo := BitVec.ofNat 10 ((s.block.fifo.toNat * 8 + v.toNat % 8) % 1024) } }) ∧
    (512 ≤ (s.block.fifo.toNat * 8 + v.toNat % 8) % 1024 →
      exec (.outLcd v) s =
        exec (decodeFrame s.block.cmd (BitVec.ofNat 9 ((s.block.fifo.toNat * 8 + v.toNat % 8) % 1024)))
          { s with block := { s.block with fifo := 1 } })

/-- R93, R109, R123: from the sentinel, three LCD-path writes do exactly what the frame they carry does. -/
def Obligations.ThreeWritesRunTheFrame : Prop :=
  ∀ (s : State) (w0 w1 w2 : Byte) (rest : List Op), s.block.regs[0x12] = 0 → s.block.fifo = 1 →
    run 3 { s with pending := .portWrite 0x18 w0 :: .portWrite 0x18 w1 :: .portWrite 0x18 w2 :: rest } =
      exec (decodeFrame s.block.cmd (frameOfWrites w0 w1 w2)) { s with pending := rest, result := none }

/-! ## Ports -/

/-- R120: a register write stores the whole byte in that register and changes nothing else. -/
def Obligations.RegisterWriteStores : Prop :=
  ∀ (s : State) (v : Byte),
    (∀ p : BitVec 4, ∃ regs', exec (.outRegsLow p v) s = .next { s with block := { s.block with regs := regs' } } ∧
      ∀ i : Fin 24, regs'[i] = if i.val = p.toNat then v else s.block.regs[i]) ∧
    (∀ p : BitVec 3, ∃ regs', exec (.outRegsHigh p v) s = .next { s with block := { s.block with regs := regs' } } ∧
      ∀ i : Fin 24, regs'[i] = if i.val = 16 + p.toNat then v else s.block.regs[i])

/-- R121: a register read returns the register and changes nothing, whatever `peek` is. -/
def Obligations.RegisterReadReturns : Prop :=
  ∀ (s : State) (i : Fin 24) (peek : Bool),
    (∀ p : BitVec 4, i.val = p.toNat →
      exec (.inRegsLow p peek) s = .next { s with result := some (.byte s.block.regs[i]) }) ∧
    (∀ p : BitVec 3, i.val = 16 + p.toNat →
      exec (.inRegsHigh p peek) s = .next { s with result := some (.byte s.block.regs[i]) })

/-- R124, R125, R287: an LCD-path read returns 0; on revisions without the responder a mass-storage write does nothing and a
read returns 0. -/
def Obligations.InertDataPortAccesses : Prop :=
  ∀ (s : State) (v : Byte) (peek : Bool),
    exec (.inLcd peek) s = .next { s with result := some (.byte 0) } ∧
    exec (.outMassStorageAbsent v) s = .next s ∧
    exec (.inMassStorageAbsent peek) s = .next { s with result := some (.byte 0) }

/-- R126, R127: the rows that the spec refuses stop by name. -/
def Obligations.UndescribedAccessesStop : Prop :=
  ∀ (s : State) (v : Byte) (peek : Bool) (port : U16) (access : PortAccess),
    exec (.outRouteOther v) s = .refused .route ∧ exec (.inRouteOther peek) s = .refused .route ∧
    exec (.portAbove port access) s = .refused .port

/-- R126, R127, R320, R322: a step is refused for the route exactly on an access of port 0x18 (a frame is one, R109) with a
routing value other than 0 and 1, refused for the port exactly on an offset above 0x18 (that such an access is refused is the
spec's default, log 13), and never for want of a meaning (the model's own refusal, which no arm raises). -/
def Obligations.StepRefusedExactly : Prop :=
  ∀ (s : State) (op : Op) (rest : List Op), s.pending = op :: rest →
    (step s = .refused .route ↔
      ((∃ v, op = .portWrite 0x18 v) ∨ (∃ peek, op = .portRead 0x18 peek) ∨ (∃ f, op = .frame f)) ∧
        s.block.regs[0x12] ≠ 0 ∧ s.block.regs[0x12] ≠ 1) ∧
    (step s = .refused .port ↔
      ∃ port : U16, 0x18 < port.toNat ∧ ((∃ v, op = .portWrite port v) ∨ (∃ peek, op = .portRead port peek))) ∧
    ∀ m, step s ≠ .refused (.notModelled m)

/-! ## Command frames -/

/-- R140, R143, R144, R147 to R150, R154, R155: each of these commands writes `cmd` and `param`, sets or clears its one mode
bit, keeps the other seven, and changes nothing else. -/
def Obligations.ModeCommandsWriteOneBit : Prop :=
  ∀ (s : State), ∀ c ∈ ([(.slpin, 0x10, 0, true), (.slpout, 0x11, 0, false), (.dispoff, 0x28, 1, true),
      (.dispon, 0x29, 1, false), (.invon, 0x21, 2, true), (.invoff, 0x20, 2, false), (.idmon, 0x39, 3, true),
      (.idmoff, 0x38, 3, false)] : List (Instr × Byte × Nat × Bool)),
    ∃ mode', exec c.1 s = .next { s with block := { s.block with cmd := c.2.1, param := 0, mode := mode' } } ∧
      ∀ j < 8, mode'.getLsbD j = if j = c.2.2.1 then c.2.2.2 else s.block.mode.getLsbD j

/-- R145, R146: PTLON sets PARTIAL, NORON clears PARTIAL and SCROLL, both clear the scroll start; nothing else changes. -/
def Obligations.PartialAndNormalMode : Prop :=
  ∀ s : State,
    (∃ mode', exec .ptlon s =
        .next { s with block := { s.block with cmd := 0x12, param := 0, mode := mode', scrollStart := 0 } } ∧
      ∀ j < 8, mode'.getLsbD j = if j = 4 then true else s.block.mode.getLsbD j) ∧
    (∃ mode', exec .noron s =
        .next { s with block := { s.block with cmd := 0x13, param := 0, mode := mode', scrollStart := 0 } } ∧
      ∀ j < 8, mode'.getLsbD j = if j = 4 ∨ j = 5 then false else s.block.mode.getLsbD j)

/-- R141: the software reset writes exactly these fields, with the window ends by `mac` bit 5 (the place of RCX is the spec's
default, log 12). -/
def Obligations.SoftwareReset : Prop :=
  ∀ s : State, exec .swreset s = .next { s with block := { s.block with
    cmd := 0x01, param := 0, mode := 0x03, colStart := 0, colEnd := (if s.block.mac.getLsbD 5 then 319 else 239),
    rowStart := 0, rowEnd := (if s.block.mac.getLsbD 5 then 239 else 319), partialStart := 0, partialEnd := 319,
    topArea := 0, scrollArea := 320, bottomArea := 0, scrollStart := 0, gamma := 1, tear := false } }

/-- R152, R153: the tearing-effect output is cleared by 0x34 and set by 0x35. -/
def Obligations.TearCommands : Prop :=
  ∀ s : State,
    exec .teoff s = .next { s with block := { s.block with cmd := 0x34, param := 0, tear := false } } ∧
    exec .teon s = .next { s with block := { s.block with cmd := 0x35, param := 0, tear := true } }

/-- R142, R156, R157: NOP, the parameter-only commands and every unassigned opcode write `cmd` and `param` and nothing else
(ten of the opcode numbers are the spec's defaults, log 12). -/
def Obligations.CommandsWithoutImmediateEffect : Prop :=
  ∀ s : State,
    (∀ c ∈ ([(.nop, 0x00), (.gamset, 0x26), (.caset, 0x2A), (.raset, 0x2B), (.ptlar, 0x30), (.vscrdef, 0x33),
        (.madctl, 0x36), (.vscrsadd, 0x37), (.colmod, 0x3A), (.ramwrc, 0x3C), (.ramctrl, 0xB0), (.pvgamctrl, 0xE0),
        (.nvgamctrl, 0xE1)] : List (Instr × Byte)),
      exec c.1 s = .next { s with block := { s.block with cmd := c.2, param := 0 } }) ∧
    ∀ op : Byte, exec (.unassigned op) s = .next { s with block := { s.block with cmd := op, param := 0 } }

/-- R151, R261: RAMWR puts the cursor at the window start, with the axes exchanged by `mac` bit 5 (log 12), and clears
exhaustion. -/
def Obligations.MemoryWriteResetsTheCursor : Prop :=
  ∀ s : State, exec .ramwr s = .next { s with block := { s.block with
    cmd := 0x2C, param := 0, exhausted := false,
    rowReg := (if s.block.mac.getLsbD 5 then s.block.colStart else s.block.rowStart),
    colReg := (if s.block.mac.getLsbD 5 then s.block.rowStart else s.block.colStart) } }

/-- R140, R342: every command frame completes, writes its opcode to `cmd` and 0 to `param`, and leaves the registers, the
shift register, `mac`, the interface bytes, the accumulators, the tables, the scan position, both memories, the responder and
the revision state as they were; only RAMWR moves the cursor, and only the software reset writes the window, the partial
window, the scroll areas and `gamma`. -/
def Obligations.CommandFramesKeepTheRest : Prop :=
  ∀ (s : State) (i : Instr) (f : U9), encode i = .frame f → f.getLsbD 8 = false →
    ∃ t, exec i s = .next t ∧ t.block.cmd.toNat = f.toNat ∧ t.block.param = 0 ∧
      t = { s with block := { t.block with
        regs := s.block.regs, fifo := s.block.fifo, mac := s.block.mac, ifBpp := s.block.ifBpp, ifCtl := s.block.ifCtl,
        ifRed := s.block.ifRed, ifGreen := s.block.ifGreen, ifBlue := s.block.ifBlue,
        gammaTable0 := s.block.gammaTable0, gammaTable1 := s.block.gammaTable1, lut := s.block.lut,
        row := s.block.row, col := s.block.col, srcRow := s.block.srcRow, dstRow := s.block.dstRow,
        colDir := s.block.colDir, frame := s.block.frame, display := s.block.display, cbw := s.block.cbw,
        cbwIndex := s.block.cbwIndex, csw := s.block.csw, cswIndex := s.block.cswIndex,
        dataOffset := s.block.dataOffset, dataLength := s.block.dataLength } } ∧
      (i ≠ .ramwr → t.block.rowReg = s.block.rowReg ∧ t.block.colReg = s.block.colReg ∧
        t.block.exhausted = s.block.exhausted) ∧
      (i ≠ .swreset → t.block.colStart = s.block.colStart ∧ t.block.colEnd = s.block.colEnd ∧
        t.block.rowStart = s.block.rowStart ∧ t.block.rowEnd = s.block.rowEnd ∧
        t.block.partialStart = s.block.partialStart ∧ t.block.partialEnd = s.block.partialEnd ∧
        t.block.topArea = s.block.topArea ∧ t.block.scrollArea = s.block.scrollArea ∧
        t.block.bottomArea = s.block.bottomArea ∧ t.block.gamma = s.block.gamma)

/-! ## Parameter frames -/

/-- R103, R171, R172, R174 to R176: a parameter byte of CASET, RASET or PTLAR goes to the high or low byte of the field its
index selects, an index past 3 is ignored, and nothing but that field and `param` changes. -/
def Obligations.WindowParameters : Prop :=
  ∀ (s : State) (b : Byte),
    exec (.casetParam b) s = .next { s with block := { s.block with
      param := s.block.param + 1,
      colStart := (if s.block.param.toNat < 2 then word9 s.block.colStart (s.block.param.toNat % 2 == 0) b
        else s.block.colStart),
      colEnd := (if 2 ≤ s.block.param.toNat ∧ s.block.param.toNat < 4
        then word9 s.block.colEnd (s.block.param.toNat % 2 == 0) b else s.block.colEnd) } } ∧
    exec (.rasetParam b) s = .next { s with block := { s.block with
      param := s.block.param + 1,
      rowStart := (if s.block.param.toNat < 2 then word9 s.block.rowStart (s.block.param.toNat % 2 == 0) b
        else s.block.rowStart),
      rowEnd := (if 2 ≤ s.block.param.toNat ∧ s.block.param.toNat < 4
        then word9 s.block.rowEnd (s.block.param.toNat % 2 == 0) b else s.block.rowEnd) } } ∧
    exec (.ptlarParam b) s = .next { s with block := { s.block with
      param := s.block.param + 1,
      partialStart := (if s.block.param.toNat < 2 then word9 s.block.partialStart (s.block.param.toNat % 2 == 0) b
        else s.block.partialStart),
      partialEnd := (if 2 ≤ s.block.param.toNat ∧ s.block.param.toNat < 4
        then word9 s.block.partialEnd (s.block.param.toNat % 2 == 0) b else s.block.partialEnd) } }

/-- R103, R171, R172, R177, R181: the scroll areas in the order top, scroll, bottom (log 12); the scroll start, whose every used byte
sets SCROLL and keeps the other mode bits. -/
def Obligations.ScrollParameters : Prop :=
  ∀ (s : State) (b : Byte),
    exec (.vscrdefParam b) s = .next { s with block := { s.block with
      param := s.block.param + 1,
      topArea := (if s.block.param.toNat < 2 then word9 s.block.topArea (s.block.param.toNat % 2 == 0) b
        else s.block.topArea),
      scrollArea := (if 2 ≤ s.block.param.toNat ∧ s.block.param.toNat < 4
        then word9 s.block.scrollArea (s.block.param.toNat % 2 == 0) b else s.block.scrollArea),
      bottomArea := (if 4 ≤ s.block.param.toNat ∧ s.block.param.toNat < 6
        then word9 s.block.bottomArea (s.block.param.toNat % 2 == 0) b else s.block.bottomArea) } } ∧
    (2 ≤ s.block.param.toNat →
      exec (.vscrsaddParam b) s = .next { s with block := { s.block with param := s.block.param + 1 } }) ∧
    (s.block.param.toNat < 2 → ∃ mode', exec (.vscrsaddParam b) s = .next { s with block := { s.block with
        param := s.block.param + 1, mode := mode',
        scrollStart := word9 s.block.scrollStart (s.block.param.toNat % 2 == 0) b } } ∧
      ∀ j < 8, mode'.getLsbD j = if j = 5 then true else s.block.mode.getLsbD j)

/-- R103, R174 to R176: from the sentinel on the LCD path (R109) a window command followed by its four bytes leaves the two
fields as the two pairs say (opcode 0x30: log 12). -/
def Obligations.WindowCommandsAssemblePairs : Prop :=
  ∀ (s : State) (a b c d : Byte) (rest : List Op), s.block.FrameReady →
    let bytes : List Op := [.frame (parameterFrameBits a), .frame (parameterFrameBits b), .frame (parameterFrameBits c),
      .frame (parameterFrameBits d)]
    run 5 { s with pending := .frame 0x02A :: bytes ++ rest } = .next { s with pending := rest, result := none, block :=
      { s.block with cmd := 0x2A, param := 4, colStart := pair9 a b, colEnd := pair9 c d } } ∧
    run 5 { s with pending := .frame 0x02B :: bytes ++ rest } = .next { s with pending := rest, result := none, block :=
      { s.block with cmd := 0x2B, param := 4, rowStart := pair9 a b, rowEnd := pair9 c d } } ∧
    run 5 { s with pending := .frame 0x030 :: bytes ++ rest } = .next { s with pending := rest, result := none, block :=
      { s.block with cmd := 0x30, param := 4, partialStart := pair9 a b, partialEnd := pair9 c d } }

/-- R182 to R185: MADCTL, COLMOD, RAMCTRL and GAMSET store the byte at index 0 whole and ignore every other index. -/
def Obligations.SingleByteParameters : Prop :=
  ∀ (s : State) (b : Byte),
    exec (.madctlParam b) s = .next { s with block := { s.block with
      param := s.block.param + 1, mac := (if s.block.param.toNat = 0 then b else s.block.mac) } } ∧
    exec (.colmodParam b) s = .next { s with block := { s.block with
      param := s.block.param + 1, ifBpp := (if s.block.param.toNat = 0 then b else s.block.ifBpp) } } ∧
    exec (.ramctrlParam b) s = .next { s with block := { s.block with
      param := s.block.param + 1, ifCtl := (if s.block.param.toNat = 0 then b else s.block.ifCtl) } } ∧
    exec (.gamsetParam b) s = .next { s with block := { s.block with
      param := s.block.param + 1, gamma := (if s.block.param.toNat = 0 then b else s.block.gamma) } }

/-- R186, R187: a gamma-table byte goes to the entry its index names; the 17th and later bytes are ignored. -/
def Obligations.GammaTableParameters : Prop :=
  ∀ (s : State) (b : Byte),
    (∃ table, exec (.pvgamctrlParam b) s =
        .next { s with block := { s.block with param := s.block.param + 1, gammaTable0 := table } } ∧
      ∀ j : Fin 16, table[j] = if j.val = s.block.param.toNat then b else s.block.gammaTable0[j]) ∧
    (∃ table, exec (.nvgamctrlParam b) s =
        .next { s with block := { s.block with param := s.block.param + 1, gammaTable1 := table } } ∧
      ∀ j : Fin 16, table[j] = if j.val = s.block.param.toNat then b else s.block.gammaTable1[j])

/-- R171, R188: a parameter of any other command changes `param` alone, modulo 2^32. -/
def Obligations.OtherParametersOnlyCount : Prop :=
  ∀ (s : State) (b : Byte), exec (.otherParam b) s = .next { s with block := { s.block with
    param := BitVec.ofNat 32 ((s.block.param.toNat + 1) % 2 ^ 32) } }

/-! ## Serial pixels -/

/-- R179, R230: in configuration mode, or with a depth code other than 3, 5 and 6, a pixel byte changes `param` alone (the mode
bit and the codes are the spec's defaults, log 12). -/
def Obligations.DisabledPixelBytesOnlyCount : Prop :=
  ∀ (s : State) (b : Byte),
    s.block.ifCtl.getLsbD 4 = true ∨
      (s.block.ifBpp.toNat % 8 ≠ 3 ∧ s.block.ifBpp.toNat % 8 ≠ 5 ∧ s.block.ifBpp.toNat % 8 ≠ 6) →
    exec (.ramwrParam b) s = .next { s with block := { s.block with param := s.block.param + 1 } } ∧
    exec (.ramwrcParam b) s = .next { s with block := { s.block with param := s.block.param + 1 } }

/-- R170, R178 to R180, R230 to R233, R262 to R267: under its own command a pixel byte completes whenever the accumulators are
in range, and changes only `param`, the accumulators, the GRAM and the cursor. A byte that completes no pixel, or finds the
cursor exhausted, leaves the GRAM and the cursor as they were; a byte that completes one moves the cursor one pixel on and
leaves every byte of the GRAM but the three colour lanes of the cursor's cell as it was, and all of it when the cursor is
outside the GRAM (codes and packings: log 12). -/
def Obligations.PixelBytesComplete : Prop :=
  ∀ (s : State) (b : Byte), s.block.SerialOk → ∀ i,
    (s.block.cmd = 0x2C ∧ i = .ramwrParam b) ∨ (s.block.cmd = 0x3C ∧ i = .ramwrcParam b) →
    ∃ t, exec i s = .next t ∧
      t = { s with block := { s.block with
        param := s.block.param + 1, ifRed := t.block.ifRed, ifGreen := t.block.ifGreen, ifBlue := t.block.ifBlue,
        frame := t.block.frame, rowReg := t.block.rowReg, colReg := t.block.colReg, exhausted := t.block.exhausted } } ∧
      (¬ s.block.ByteCompletes ∨ s.block.exhausted = true →
        t.block.frame = s.block.frame ∧ t.block.rowReg = s.block.rowReg ∧ t.block.colReg = s.block.colReg ∧
        t.block.exhausted = s.block.exhausted) ∧
      (s.block.ByteCompletes → s.block.exhausted = false → CursorAdvanced s.block t.block) ∧
      (s.block.ByteCompletes →
        (∀ x, (∀ lane < 3, x ≠ frameAddr s.block.rowReg.toNat s.block.colReg.toNat lane) →
          t.block.frame.read x = s.block.frame.read x) ∧
        (320 ≤ s.block.rowReg.toNat ∨ 240 ≤ s.block.colReg.toNat → t.block.frame = s.block.frame))

/-- R104, R231: at 18 bits per pixel three serial bytes, each a frame from the sentinel on the LCD path (R109), are one PIX18 of
their bits 7:2 (code and packing: log 12). -/
def Obligations.Serial18IsPixelPort : Prop :=
  ∀ (s : State) (b0 b1 b2 : Byte) (rest : List Op), s.block.FrameReady →
    s.block.cmd = 0x2C ∨ s.block.cmd = 0x3C → s.block.ifCtl.getLsbD 4 = false → s.block.ifBpp.toNat % 8 = 6 →
    s.block.param.toNat % 3 = 0 → s.block.param.toNat + 2 < 2 ^ 32 →
    let bytes : List Op := [.frame (parameterFrameBits b0), .frame (parameterFrameBits b1), .frame (parameterFrameBits b2)]
    run 3 { s with pending := bytes ++ rest } =
      run 1 { s with
        pending := .pixel18 (b0 >>> 2) (b1 >>> 2) (b2 >>> 2) :: rest
        block := { s.block with
          param := s.block.param + 3, ifRed := b0 >>> 2, ifGreen := b1 >>> 2, ifBlue := b2 >>> 2 } }

/-- R105, R232: at 16 bits per pixel two serial bytes, each a frame from the sentinel on the LCD path (R109), are one PIX16 of
the 5, 6 and 5 bits they hold, first bit highest (code and packing: log 12). -/
def Obligations.Serial16IsPixelPort : Prop :=
  ∀ (s : State) (b0 b1 : Byte) (rest : List Op), s.block.FrameReady →
    s.block.cmd = 0x2C ∨ s.block.cmd = 0x3C → s.block.ifCtl.getLsbD 4 = false → s.block.ifBpp.toNat % 8 = 5 →
    s.block.param.toNat % 2 = 0 →
    let r : Byte := BitVec.ofNat 8 (b0.toNat / 8)
    let g : Byte := BitVec.ofNat 8 (b0.toNat % 8 * 8 + b1.toNat / 32)
    let b : Byte := BitVec.ofNat 8 (b1.toNat % 32)
    run 2 { s with pending := .frame (parameterFrameBits b0) :: .frame (parameterFrameBits b1) :: rest } =
      run 1 { s with
        pending := .pixel16 r g b :: rest
        block := { s.block with param := s.block.param + 2, ifRed := r, ifGreen := g, ifBlue := b } }

/-- R106, R233: at 12 bits per pixel three serial bytes, each a frame from the sentinel on the LCD path (R109), are two PIX12
of their six nibbles, high nibble first (code and packing: log 12). -/
def Obligations.Serial12IsPixelPort : Prop :=
  ∀ (s : State) (b0 b1 b2 : Byte) (rest : List Op), s.block.FrameReady →
    s.block.cmd = 0x2C ∨ s.block.cmd = 0x3C → s.block.ifCtl.getLsbD 4 = false → s.block.ifBpp.toNat % 8 = 3 →
    s.block.param.toNat % 3 = 0 → s.block.param.toNat + 2 < 2 ^ 32 →
    let high := fun b : Byte => (BitVec.ofNat 8 (b.toNat / 16) : Byte)
    let low := fun b : Byte => (BitVec.ofNat 8 (b.toNat % 16) : Byte)
    let bytes : List Op := [.frame (parameterFrameBits b0), .frame (parameterFrameBits b1), .frame (parameterFrameBits b2)]
    run 3 { s with pending := bytes ++ rest } =
      run 2 { s with
        pending := .pixel12 (high b0) (low b0) (high b1) :: .pixel12 (low b1) (high b2) (low b2) :: rest
        block := { s.block with
          param := s.block.param + 3, ifRed := low b1, ifGreen := high b2, ifBlue := low b2 } }

/-! ## The pixel port and the cursor -/

/-- R234, R235, R236: an entry point faults exactly when a channel is outside its width. -/
def Obligations.PixelPortFaultsExactly : Prop :=
  ∀ (s : State) (r g b : Byte),
    (exec (.pix18 r g b) s = .fault .pixel18Range ↔ 64 ≤ r.toNat ∨ 64 ≤ g.toNat ∨ 64 ≤ b.toNat) ∧
    (exec (.pix16 r g b) s = .fault .pixel16Range ↔ 32 ≤ r.toNat ∨ 64 ≤ g.toNat ∨ 32 ≤ b.toNat) ∧
    (exec (.pix12 r g b) s = .fault .pixel12Range ↔ 16 ≤ r.toNat ∨ 16 ≤ g.toNat ∨ 16 ≤ b.toNat)

/-- R234, R237, R262, R267: PIX18 stores each channel replicated to 8 bits (log 12) at the cursor. -/
def Obligations.Pixel18StoresAtTheCursor : Prop :=
  ∀ (s : State) (r g b : Byte), r.toNat < 64 → g.toNat < 64 → b.toNat < 64 →
    ∃ t, exec (.pix18 r g b) s = .next t ∧ StoresAtCursor s t (replicate6 r) (replicate6 g) (replicate6 b)

/-- R235, R262, R267: PIX16 stores the table's entries for red, green (offset 32) and blue at the cursor. -/
def Obligations.Pixel16StoresAtTheCursor : Prop :=
  ∀ (s : State) (r g b x y z : Byte), r.toNat < 32 → g.toNat < 64 → b.toNat < 32 →
    s.block.lut[r.toNat]? = some x → s.block.lut[32 + g.toNat]? = some y → s.block.lut[b.toNat]? = some z →
    ∃ t, exec (.pix16 r g b) s = .next t ∧ StoresAtCursor s t x y z

/-- R236, R262, R267: PIX12 widens each channel to the table's 5-bit or 6-bit index by repeating its top bits (`EXPAND12` at
the spec's default, log 12), and stores the table's entries at the cursor. -/
def Obligations.Pixel12StoresAtTheCursor : Prop :=
  ∀ (s : State) (r g b x y z : Byte), r.toNat < 16 → g.toNat < 16 → b.toNat < 16 →
    s.block.lut[r.toNat * 2 + r.toNat / 8]? = some x → s.block.lut[32 + (g.toNat * 4 + g.toNat / 4)]? = some y →
    s.block.lut[b.toNat * 2 + b.toNat / 8]? = some z →
    ∃ t, exec (.pix12 r g b) s = .next t ∧ StoresAtCursor s t x y z

/-- R263 to R266: the cursor after a stored pixel, through each of the three entry points, on both axes, reversed, at line ends
and at exhaustion, as `CursorAdvanced` says (bit places and the reverse bit: log 12). -/
def Obligations.CursorAdvancesAfterAPixel : Prop :=
  ∀ (s : State) (r g b : Byte), s.block.exhausted = false →
    (r.toNat < 64 → g.toNat < 64 → b.toNat < 64 →
      ∃ t, exec (.pix18 r g b) s = .next t ∧ CursorAdvanced s.block t.block) ∧
    (r.toNat < 32 → g.toNat < 64 → b.toNat < 32 →
      ∃ t, exec (.pix16 r g b) s = .next t ∧ CursorAdvanced s.block t.block) ∧
    (r.toNat < 16 → g.toNat < 16 → b.toNat < 16 →
      ∃ t, exec (.pix12 r g b) s = .next t ∧ CursorAdvanced s.block t.block)

/-- R267, R268: only a command 0x2C (also as the frame that a data-port write completes,
which is the first write of a frame issued away from the sentinel), a vsync in configuration mode, a
power-on reset or a restored record takes the cursor out of the exhausted state (bit places: log 12). -/
def Obligations.OnlyACursorResetUnparks : Prop :=
  ∀ (s t : State) (op : Op) (rest : List Op), s.pending = op :: rest → step s = .next t →
    s.block.exhausted = true → t.block.exhausted = false →
    op = .frame 0x02C ∨ (op = .vsync ∧ s.block.ifCtl.getLsbD 4 = true) ∨ op = .powerOnReset ∨ op = .restore true ∨
      (s.block.regs[0x12] = 0 ∧ t.block.cmd = 0x2C ∧ t.block.param = 0 ∧
        ((∃ v, op = .portWrite 0x18 v) ∨ (s.block.fifo ≠ 1 ∧ ∃ f, op = .frame f)))

/-- R262 to R266: with no exchange and no reversal, a pass over a window inside the GRAM visits the cells row by row from the
window start: after n pixels, fewer than the window holds, the cursor stands at the n-th cell, pixel i is in the i-th cell, and
after the last one the cursor is exhausted (bit places: log 12). -/
def Obligations.WindowPassFillsTheWindow : Prop :=
  ∀ (s : State) (pixels : List (Byte × Byte × Byte)) (rest : List Op),
    s.block.mac.getLsbD 5 = false → s.block.mac.getLsbD 6 = false →
    s.block.colStart.toNat ≤ s.block.colEnd.toNat → s.block.colEnd.toNat ≤ 239 →
    s.block.rowStart.toNat ≤ s.block.rowEnd.toNat → s.block.rowEnd.toNat ≤ 319 →
    s.block.rowReg = s.block.rowStart → s.block.colReg = s.block.colStart → s.block.exhausted = false →
    (∀ p ∈ pixels, p.1.toNat < 64 ∧ p.2.1.toNat < 64 ∧ p.2.2.toNat < 64) →
    let width := s.block.colEnd.toNat - s.block.colStart.toNat + 1
    let height := s.block.rowEnd.toNat - s.block.rowStart.toNat + 1
    pixels.length ≤ width * height →
    ∃ t, run pixels.length { s with pending := pixels.map (fun p => Op.pixel18 p.1 p.2.1 p.2.2) ++ rest } = .next t ∧
      t.block.exhausted = decide (pixels.length = width * height) ∧
      (pixels.length < width * height →
        t.block.rowReg.toNat = s.block.rowStart.toNat + pixels.length / width ∧
        t.block.colReg.toNat = s.block.colStart.toNat + pixels.length % width) ∧
      ∀ n p, pixels[n]? = some p →
        t.block.frameLane (s.block.rowStart.toNat + n / width) (s.block.colStart.toNat + n % width) 0 = replicate6 p.1 ∧
        t.block.frameLane (s.block.rowStart.toNat + n / width) (s.block.colStart.toNat + n % width) 1 = replicate6 p.2.1 ∧
        t.block.frameLane (s.block.rowStart.toNat + n / width) (s.block.colStart.toNat + n % width) 2 = replicate6 p.2.2

/-! ## The raster scan -/

/-- R210 to R216: hsync evaluates row + 1 (on u16). Up to row 319 it returns true and sets the scan state by the partial window,
the scroll band and the mirrors; past it, it sets IGNORE, returns false and keeps the scan position. Nothing else changes. (`mac` bit
places: log 12.) -/
def Obligations.HsyncEvaluatesTheNextRow : Prop :=
  ∀ (s : State),
    ((s.block.row.toNat + 1) % 65536 ≤ 319 →
      ∃ mode', exec .hsync s = .next { s with
          result := some (.flag true)
          block := rowEvaluated s.block ((s.block.row.toNat + 1) % 65536) mode' } ∧
        RowMode s.block ((s.block.row.toNat + 1) % 65536) mode') ∧
    (319 < (s.block.row.toNat + 1) % 65536 →
      exec .hsync s = .next { s with
        result := some (.flag false)
        block := { s.block with mode := s.block.mode ||| 0x80#8 } })

/-- R210 to R215, R217: vsync evaluates row 0 and returns true; in configuration mode the cursor first goes to the window
start, with the axes exchanged by `mac` bit 5. Nothing else changes. (Bit places: log 12.) -/
def Obligations.VsyncEvaluatesRowZero : Prop :=
  ∀ (s : State), ∃ mode', RowMode s.block 0 mode' ∧
    exec .vsync s = .next { s with
      result := some (.flag true)
      block := rowEvaluated
        { s.block with
          rowReg := (if s.block.ifCtl.getLsbD 4 then (if s.block.mac.getLsbD 5 then s.block.colStart else s.block.rowStart)
            else s.block.rowReg)
          colReg := (if s.block.ifCtl.getLsbD 4 then (if s.block.mac.getLsbD 5 then s.block.rowStart else s.block.colStart)
            else s.block.colReg)
          exhausted := s.block.exhausted && !s.block.ifCtl.getLsbD 4 } 0 mode' }

/-- R217: two vsyncs with nothing between leave the same state as one. -/
def Obligations.VsyncIsIdempotent : Prop :=
  ∀ (s t : State), exec .vsync s = .next t → exec .vsync t = .next t

/-- R260: hsync and refreshPixel leave the cursor and the GRAM alone, and what they do to everything else does not depend on
where the cursor stands. -/
def Obligations.ScanIgnoresTheCursor : Prop :=
  ∀ (s : State) (row' col' : U9) (exhausted' : Bool), ∀ i ∈ ([.hsync, .refresh] : List Instr),
    ∃ t, exec i s = .next t ∧ t.block.rowReg = s.block.rowReg ∧ t.block.colReg = s.block.colReg ∧
      t.block.exhausted = s.block.exhausted ∧ t.block.frame = s.block.frame ∧
      exec i { s with block := { s.block with rowReg := row', colReg := col', exhausted := exhausted' } } =
        .next { t with block := { t.block with rowReg := row', colReg := col', exhausted := exhausted' } }

/-! ## Refresh -/

/-- R240, R244: on an ignored line refreshPixel returns false and changes nothing; on any other line it completes: it moves the column one step on u16, sets IGNORE and
returns false exactly when the column passes 239, and writes no byte but the four of its own output cell, the alpha as 0xFF.
A scan position outside the output buffer has no cell: then no byte is written (the model's choice, log 10). -/
def Obligations.RefreshWritesItsCell : Prop :=
  ∀ s : State,
    (s.block.mode.getLsbD 7 = true → exec .refresh s = .next { s with result := some (.flag false) }) ∧
    (s.block.mode.getLsbD 7 = false → ∃ t, exec .refresh s = .next t ∧
      t = { s with draws := t.draws, result := some (.flag (decide (t.block.col.toNat ≤ 239))), block := { s.block with
        display := t.block.display, col := t.block.col,
        mode := (if t.block.col.toNat ≤ 239 then s.block.mode else s.block.mode ||| 0x80#8) } } ∧
      t.block.col.toNat = (match s.block.colDir with
        | .backward => (s.block.col.toNat + 65535) % 65536
        | .still => s.block.col.toNat
        | .forward => (s.block.col.toNat + 1) % 65536) ∧
      (s.block.col.toNat < 240 → s.block.dstRow.toNat < 320 →
        t.block.display.read (displayAddr s.block.col.toNat s.block.dstRow.toNat 3) = 0xFF ∧
        ∀ x, (∀ lane < 4, x ≠ displayAddr s.block.col.toNat s.block.dstRow.toNat lane) →
          t.block.display.read x = s.block.display.read x) ∧
      (240 ≤ s.block.col.toNat ∨ 320 ≤ s.block.dstRow.toNat → t.block.display = s.block.display))

/-- R241: with SLEEP, OFF or BLANK set the cell is written white, whatever the GRAM and the other modes hold, and no noise
is drawn. -/
def Obligations.RefreshBlankColour : Prop :=
  ∀ s : State, s.block.mode.getLsbD 7 = false → s.block.col.toNat < 240 → s.block.dstRow.toNat < 320 →
    s.block.mode.getLsbD 0 = true ∨ s.block.mode.getLsbD 1 = true ∨ s.block.mode.getLsbD 6 = true →
    ∃ t, exec .refresh s = .next t ∧ t.draws = s.draws ∧
      ∀ lane < 4, t.block.display.read (displayAddr s.block.col.toNat s.block.dstRow.toNat lane) = 0xFF

/-- R242: with no blanking and a source row outside the GRAM the cell takes the next three noise bytes, red first, untouched
by order, invert and idle, whatever those bytes are (log 5). -/
def Obligations.RefreshNoise : Prop :=
  ∀ s : State, s.block.mode.getLsbD 7 = false → s.block.col.toNat < 240 → s.block.dstRow.toNat < 320 →
    s.block.mode.getLsbD 0 = false → s.block.mode.getLsbD 1 = false → s.block.mode.getLsbD 6 = false →
    320 ≤ s.block.srcRow.toNat →
    ∃ t, exec .refresh s = .next t ∧ t.draws = s.draws + 3 ∧
      ∀ lane < 3, t.block.display.read (displayAddr s.block.col.toNat s.block.dstRow.toNat lane) =
        Config.noise (s.draws + lane)

/-- R243: with no blanking and a source row in the GRAM the cell takes the stored triplet, red and blue swapped by `mac` bit 3,
then each channel inverted by INVERT, then reduced to its top bit by IDLE; no noise is drawn. (`mac` bit 3: log 12.) -/
def Obligations.RefreshShowsTheGram : Prop :=
  ∀ s : State, s.block.mode.getLsbD 7 = false → s.block.col.toNat < 240 → s.block.dstRow.toNat < 320 →
    s.block.mode.getLsbD 0 = false → s.block.mode.getLsbD 1 = false → s.block.mode.getLsbD 6 = false →
    s.block.srcRow.toNat < 320 →
    ∃ t, exec .refresh s = .next t ∧ t.draws = s.draws ∧
      ∀ lane < 3, t.block.display.read (displayAddr s.block.col.toNat s.block.dstRow.toNat lane) =
        shownChannel s.block.mode (s.block.frame.read (frameAddr s.block.srcRow.toNat s.block.col.toNat
          (if s.block.mac.getLsbD 3 then 2 - lane else lane)))

/-- R240, R215: on a line scanned forward from column 0, the first 239 refreshes return true, the 240th returns false and sets
IGNORE; they write the cells of the line, with full alpha, and no other byte of the output buffer. -/
def Obligations.LineEndsAfter240Refreshes : Prop :=
  ∀ (s : State) (n : Nat) (rest : List Op), n ≤ 240 → s.block.col = 0 → s.block.colDir = .forward →
    s.block.mode.getLsbD 7 = false → s.block.dstRow.toNat < 320 →
    ∃ t, run n { s with pending := List.replicate n .refreshPixel ++ rest } = .next t ∧
      t.pending = rest ∧ t.block.col.toNat = n ∧ t.block.mode.getLsbD 7 = decide (n = 240) ∧
      (0 < n → t.result = some (.flag (decide (n < 240)))) ∧
      (∀ c < n, t.block.display.read (displayAddr c s.block.dstRow.toNat 3) = 0xFF) ∧
      ∀ x, (∀ c < n, ∀ lane < 4, x ≠ displayAddr c s.block.dstRow.toNat lane) →
        t.block.display.read x = s.block.display.read x

/-- R354: after power-on any number of refreshes before the first row evaluation writes white to `display[0][0]`, returns
true, and leaves the scan position. -/
def Obligations.RefreshBeforeTheFirstRow : Prop :=
  ∀ (n : Nat) (rest : List Op), 0 < n →
    ∃ t, run n { State.reset with pending := List.replicate n .refreshPixel ++ rest } = .next t ∧
      t.result = some (.flag true) ∧ t.block = { Block.reset with display := t.block.display } ∧
      ∀ x, t.block.display.read x = if x < 4 then 0xFF else 0

/-! ## The mass-storage responder -/

/-- R281: a byte is appended at the 5-bit wrapping index and nothing else changes. -/
def Obligations.MassStorageAppends : Prop :=
  ∀ (s : State) (v : Byte), ∃ cbw', exec (.outMassStorage v) s = .next { s with block := { s.block with
      cbw := cbw', cbwIndex := BitVec.ofNat 5 ((s.block.cbwIndex.toNat + 1) % 32) } } ∧
    ∀ i : Fin 32, cbw'[i] = if i.val = s.block.cbwIndex.toNat then v else s.block.cbw[i]

/-- R282 to R286: a read, whatever `peek` is. With a response pending it returns the next byte and changes only the view. With
none it returns 0 and clears the accumulator; for a block that begins with 'U' 'S' 'B' 'C' it also builds the status wrapper,
and arms the response when byte 15 is 0x12 (offset 15: log 12). -/
def Obligations.MassStorageReads : Prop :=
  ∀ (s : State) (peek : Bool),
    (0 < s.block.dataLength →
      exec (.inMassStorage peek) s = .next { s with
        result := some (.byte (Config.inquiryData s.block.dataOffset))
        block := { s.block with dataOffset := s.block.dataOffset + 1, dataLength := s.block.dataLength - 1 } }) ∧
    (s.block.dataLength = 0 →
      (s.block.cbw[0] = 0x55 ∧ s.block.cbw[1] = 0x53 ∧ s.block.cbw[2] = 0x42 ∧ s.block.cbw[3] = 0x43) →
      ∃ csw', exec (.inMassStorage peek) s = .next { s with
          result := some (.byte 0)
          block := { s.block with
            cbw := Vector.replicate 32 0, cbwIndex := 0, csw := csw', cswIndex := 0,
            dataOffset := (if s.block.cbw[15] = 0x12 then 0 else s.block.dataOffset),
            dataLength := (if s.block.cbw[15] = 0x12 then 54 else 0) } } ∧
        csw'[0] = s.block.cbw[0] ∧ csw'[1] = s.block.cbw[1] ∧ csw'[2] = s.block.cbw[2] ∧ csw'[3] = 0x53 ∧
        csw'[4] = s.block.cbw[4] ∧ csw'[5] = s.block.cbw[5] ∧ csw'[6] = s.block.cbw[6] ∧ csw'[7] = s.block.cbw[7] ∧
        (∀ i : Fin 16, 8 ≤ i.val → csw'[i] = if i.val ≤ 12 then 0 else s.block.csw[i])) ∧
    (s.block.dataLength = 0 →
      ¬ (s.block.cbw[0] = 0x55 ∧ s.block.cbw[1] = 0x53 ∧ s.block.cbw[2] = 0x42 ∧ s.block.cbw[3] = 0x43) →
      exec (.inMassStorage peek) s = .next { s with
        result := some (.byte 0)
        block := { s.block with cbw := Vector.replicate 32 0, cbwIndex := 0 } })

/-- R282 to R285: after an INQUIRY block the first read returns 0, the next 54 return the response in order, and then reads
return 0 again (offset 15: log 12; the response bytes are open, log 6). -/
def Obligations.InquiryExchange : Prop :=
  ∀ (s : State) (n : Nat) (rest : List Op), n ≤ 55 → s.block.regs[0x12] = 1 → s.effectiveRevision = .m →
    s.block.dataLength = 0 →
    (s.block.cbw[0] = 0x55 ∧ s.block.cbw[1] = 0x53 ∧ s.block.cbw[2] = 0x42 ∧ s.block.cbw[3] = 0x43) →
    s.block.cbw[15] = 0x12 →
    ∃ t, run (n + 1) { s with pending := List.replicate (n + 1) (.portRead 0x18 false) ++ rest } = .next t ∧
      t.result = some (.byte (if n = 0 ∨ n = 55 then 0 else Config.inquiryData (n - 1))) ∧
      t.block.dataLength = 54 - n

/-! ## Reset, revision, snapshot -/

/-- R340, R341, R301: power-on reset leaves the table of R341 whatever was there before, resolves the revision, and keeps the
configuration. (The formulas of the table: log 12.) -/
def Obligations.PowerOnReset : Prop :=
  ∀ s : State, ∃ k revision, exec .reset s = .next { s with block := k, effectiveRevision := revision } ∧
    revision = (match s.requestedRevision with
      | .auto => Config.autoRevision
      | .a => Revision.a
      | .i => Revision.i
      | .m => Revision.m) ∧
    k = { Block.reset with lut := k.lut } ∧
    (∀ v : Fin 32, k.lut[v.val] = BitVec.ofNat 8 (v.val * 8 + v.val / 4)) ∧
    (∀ v : Fin 64, k.lut[32 + v.val] = BitVec.ofNat 8 (v.val * 4 + v.val / 16))

/-- R300: a setter writes its element alone; the effective revision is not changed. -/
def Obligations.SettersWriteTheirElement : Prop :=
  ∀ (s : State) (d : DeviceType) (r : RequestedRevision),
    exec (.setdev d) s = .next { s with deviceType := d } ∧
    exec (.setrev r) s = .next { s with requestedRevision := r }

/-- R303: revisions A and I behave identically, and what the effective revision changes is confined to the mass-storage route
of port 0x18, which a frame issued there goes to as well (R109). -/
def Obligations.RevisionGatesOnlyTheResponder : Prop :=
  ∀ (s : State) (q : Revision) (op : Op) (rest : List Op), s.pending = op :: rest →
    (s.effectiveRevision ≠ .m ∧ q ≠ .m) ∨
      ¬ (s.block.regs[0x12] = 1 ∧ ((∃ v, op = .portWrite 0x18 v) ∨ (∃ peek, op = .portRead 0x18 peek) ∨ (∃ f, op = .frame f))) →
    (∀ t, step s = .next t → ∃ q', step { s with effectiveRevision := q } = .next { t with effectiveRevision := q' }) ∧
    (∀ e, step s = .fault e → step { s with effectiveRevision := q } = .fault e) ∧
    (∀ e, step s = .refused e → step { s with effectiveRevision := q } = .refused e)

/-- R304 to R307, R323: SAVE records the block and changes nothing in it; RESTORE completes whatever the stream holds:
it puts a whole record in the block's place as it is and keeps the instance's own revision state, so that a saved block comes
back in any instance; an operation whose stream fails returns false and changes nothing in
the block. (The stream as a field of the state, and a failed put leaving it as it was, are the model's form, log 9.) -/
def Obligations.SaveThenRestore : Prop :=
  (∀ x : State,
    exec (.save true) x = .next { x with stream := some x.block, result := some (.flag true) } ∧
    exec (.save false) x = .next { x with result := some (.flag false) } ∧
    exec (.restore false) x = .next { x with result := some (.flag false) } ∧
    (x.stream = none → exec (.restore true) x = .next { x with result := some (.flag false) })) ∧
  (∀ (x : State) (record : Block), x.stream = some record →
    exec (.restore true) x = .next { x with block := record, result := some (.flag true) }) ∧
  ∀ (x x' y : State), exec (.save true) x = .next x' → y.stream = x'.stream →
    exec (.restore true) y = .next { y with block := x.block, result := some (.flag true) }

/-! ## Whole-machine rules -/

/-- R25, R26, R42, R329: who writes the mode flags, `mac` and `tear`. Apart from the software reset, the power-on reset, a
restored record and the data-port write that completes a frame, each is written by its own instructions alone. -/
def Obligations.FlagsHaveTheirWriters : Prop :=
  ∀ (i : Instr) (s t : State), exec i s = .next t → i ≠ .swreset → i ≠ .reset → (∀ ok, i ≠ .restore ok) →
    (∀ v, i ≠ .outLcd v) →
    (t.block.mode.getLsbD 0 ≠ s.block.mode.getLsbD 0 → i = .slpin ∨ i = .slpout) ∧
    (t.block.mode.getLsbD 1 ≠ s.block.mode.getLsbD 1 → i = .dispoff ∨ i = .dispon) ∧
    (t.block.mode.getLsbD 2 ≠ s.block.mode.getLsbD 2 → i = .invon ∨ i = .invoff) ∧
    (t.block.mode.getLsbD 3 ≠ s.block.mode.getLsbD 3 → i = .idmon ∨ i = .idmoff) ∧
    (t.block.mode.getLsbD 4 ≠ s.block.mode.getLsbD 4 → i = .ptlon ∨ i = .noron) ∧
    (t.block.mode.getLsbD 5 ≠ s.block.mode.getLsbD 5 → i = .noron ∨ ∃ b, i = .vscrsaddParam b) ∧
    (t.block.mode.getLsbD 6 ≠ s.block.mode.getLsbD 6 → i = .hsync ∨ i = .vsync) ∧
    (t.block.mode.getLsbD 7 ≠ s.block.mode.getLsbD 7 → i = .hsync ∨ i = .vsync ∨ i = .refresh) ∧
    (t.block.mac ≠ s.block.mac → ∃ b, i = .madctlParam b) ∧
    (t.block.tear ≠ s.block.tear → i = .teon ∨ i = .teoff)

/-- R321: from a state that meets the invariant only a pixel-port call with a channel outside its width faults; no port access,
command, parameter or timing operation does. -/
def Obligations.OnlyThePixelPortFaults : Prop :=
  ∀ (s : State) (e : Fault), s.Inv → step s = .fault e →
    ∃ r g b rest, (s.pending = .pixel18 r g b :: rest ∧ e = .pixel18Range ∧ (64 ≤ r.toNat ∨ 64 ≤ g.toNat ∨ 64 ≤ b.toNat)) ∨
      (s.pending = .pixel16 r g b :: rest ∧ e = .pixel16Range ∧ (32 ≤ r.toNat ∨ 64 ≤ g.toNat ∨ 32 ≤ b.toNat)) ∨
      (s.pending = .pixel12 r g b :: rest ∧ e = .pixel12Range ∧ (16 ≤ r.toNat ∨ 16 ≤ g.toNat ∨ 16 ≤ b.toNat))

/-- R10, R29, R36, R37, R42, R84, R288: no rule reads `scrollArea`, `gamma`, the gamma tables, `display`, `tear`, the status
buffer or the device type: two states that differ in these alone go to states that differ in these alone, with the same
results and stops. (SAVE copies the whole block, so it is left out.) -/
def Obligations.UnreadElementsHaveNoEffect : Prop :=
  ∀ s u : State, s.unreadErased = u.unreadErased → (∀ ok, s.pending.head? ≠ some (.save ok)) →
    Outcome.AgreeOnRead (step s) (step u)

/-- R341: the invariant holds right after reset. -/
def Obligations.ResetMeetsTheInvariant : Prop := State.reset.Inv

/-- R22, R31, R39, R40, R73, R211, R283, R288, R321: every step keeps the invariant. -/
def Obligations.StepKeepsTheInvariant : Prop :=
  ∀ s t : State, s.Inv → step s = .next t → t.Inv
end

