-- ==== Sys2Proof/Laws/Memory.lean ====
section
/-! SUPPORT. The laws of a lane memory: read after write, canonical form, and the bounds of what is listed. -/

namespace Sys2Proof.Machine.Memory

theorem read_insert_same (m : Memory) (x : Nat) (v : Byte) (h : ∀ c ∈ m, c.1 ≠ x) : (insert x v m).read x = v := by
  induction m with
  | nil => simp [insert, read]
  | cons c m ih =>
    obtain ⟨a, b⟩ := c
    have hne : x ≠ a := fun e => h (a, b) (by simp) e.symm
    by_cases hlt : x < a
    · simp [insert, hlt, read]
    · simp [insert, hlt, read, hne, ih fun c hc => h c (by simp [hc])]

theorem read_insert_ne (m : Memory) {x y : Nat} (v : Byte) (h : y ≠ x) : (insert x v m).read y = m.read y := by
  induction m with
  | nil => simp [insert, read, h]
  | cons c m ih =>
    obtain ⟨a, b⟩ := c
    by_cases hlt : x < a <;> simp [insert, hlt, read, h, ih]

theorem mem_erase {m : Memory} {x : Nat} {c : Host.Cell} : c ∈ m.erase x ↔ c ∈ m ∧ c.1 ≠ x := by
  simp [erase]

theorem read_erase_same (m : Memory) (x : Nat) : (m.erase x).read x = unlisted := by
  induction m with
  | nil => rfl
  | cons c m ih =>
    obtain ⟨a, b⟩ := c
    by_cases h : a = x
    · simpa [erase, h] using ih
    · simpa [erase, h, read, Ne.symm h] using ih

theorem read_erase_ne (m : Memory) {x y : Nat} (h : y ≠ x) : (m.erase x).read y = m.read y := by
  induction m with
  | nil => rfl
  | cons c m ih =>
    obtain ⟨a, b⟩ := c
    by_cases ha : a = x
    · have : y ≠ a := by omega
      simpa [erase, ha, read, h] using ih
    · by_cases hy : y = a
      · simp [erase, ha, read, hy]
      · simpa [erase, ha, read, hy] using ih

/-- A read after a write to the same address gives the value written. -/
@[simp] theorem read_write_same (m : Memory) (x : Nat) (v : Byte) : (m.write x v).read x = v := by
  unfold write
  split
  · rename_i h
    rw [read_erase_same, h]
  · exact read_insert_same _ _ _ fun c hc => (mem_erase.mp hc).2

/-- A write leaves every other address alone. -/
theorem read_write_ne (m : Memory) {x y : Nat} (v : Byte) (h : y ≠ x) : (m.write x v).read y = m.read y := by
  unfold write
  split
  · exact read_erase_ne m h
  · rw [read_insert_ne _ _ h, read_erase_ne m h]

theorem mem_insert {m : Memory} {x : Nat} {v : Byte} {c : Host.Cell} (h : c ∈ insert x v m) : c = (x, v) ∨ c ∈ m := by
  induction m with
  | nil => simpa [insert] using h
  | cons d m ih =>
    obtain ⟨a, b⟩ := d
    by_cases hlt : x < a
    · simpa [insert, hlt] using h
    · simp only [insert, hlt, if_false, List.mem_cons] at h
      rcases h with h | h
      · exact .inr (by simp [h])
      · rcases ih h with h | h
        · exact .inl h
        · exact .inr (by simp [h])

/-- What a write can list: the written entry, when it is not the unlisted byte, and what was listed before. -/
theorem mem_write {m : Memory} {x : Nat} {v : Byte} {c : Host.Cell} (h : c ∈ m.write x v) :
    (c = (x, v) ∧ v ≠ unlisted) ∨ c ∈ m := by
  unfold write at h
  split at h
  · exact .inr (mem_erase.mp h).1
  · rename_i hv
    rcases mem_insert h with h | h
    · exact .inl ⟨h, hv⟩
    · exact .inr (mem_erase.mp h).1

theorem pairwise_insert {m : Memory} {x : Nat} {v : Byte} (hp : m.Pairwise fun c d => c.1 < d.1)
    (hx : ∀ c ∈ m, c.1 ≠ x) : (insert x v m).Pairwise fun c d => c.1 < d.1 := by
  induction m with
  | nil => simp [insert]
  | cons c m ih =>
    obtain ⟨a, b⟩ := c
    have hm := List.pairwise_cons.mp hp
    by_cases hlt : x < a
    · simp only [insert, hlt, if_true, List.pairwise_cons]
      refine ⟨?_, hm⟩
      intro d hd
      rcases List.mem_cons.mp hd with rfl | hd
      · exact hlt
      · exact lt_trans hlt (hm.1 d hd)
    · have hne := hx (a, b) (by simp)
      simp only [insert, hlt, if_false, List.pairwise_cons]
      refine ⟨?_, ih hm.2 fun c hc => hx c (by simp [hc])⟩
      intro d hd
      rcases mem_insert hd with rfl | hd
      · exact lt_of_le_of_ne (not_lt.mp hlt) hne
      · exact hm.1 d hd

/-- A write keeps the canonical form. -/
theorem wf_write {m : Memory} (x : Nat) (v : Byte) (h : m.wf) : (m.write x v).wf := by
  refine ⟨?_, fun c hc => ?_⟩
  · have he : (m.erase x).Pairwise fun c d => c.1 < d.1 := h.1.filter _
    unfold write
    split
    · exact he
    · exact pairwise_insert he fun c hc => (mem_erase.mp hc).2
  · rcases mem_write hc with ⟨rfl, hv⟩ | hc
    · exact hv
    · exact h.2 c hc

/-- A write to a lane of the array lists nothing outside it. -/
theorem within_write {m : Memory} {x : Nat} (v : Byte) (h : m.Within) (hx : x < laneCount) : (m.write x v).Within := by
  intro c hc
  rcases mem_write hc with ⟨rfl, _⟩ | hc
  · exact hx
  · exact h c hc

/-- A write to a colour lane lists no alpha lane. -/
theorem noAlpha_write {m : Memory} {x : Nat} (v : Byte) (h : m.NoAlpha) (hx : x % 4 ≠ 3) : (m.write x v).NoAlpha := by
  intro c hc
  rcases mem_write hc with ⟨rfl, _⟩ | hc
  · exact hx
  · exact h c hc

/-- The memory after power-on is canonical. -/
theorem wf_nil : Memory.wf [] := by simp [Memory.wf]

/-- An empty memory reads as power-on left it. -/
@[simp] theorem read_nil (x : Nat) : Memory.read [] x = unlisted := rfl

end Sys2Proof.Machine.Memory

namespace Sys2Proof.Machine

/-- The lanes of a GRAM cell are lanes of the array. -/
theorem frameAddr_lt {row col lane : Nat} (hr : row < 320) (hc : col < 240) (hl : lane < 4) :
    frameAddr row col lane < laneCount := by
  simp only [frameAddr, laneCount]
  omega

/-- The lanes of an output cell are lanes of the array. -/
theorem displayAddr_lt {col row lane : Nat} (hc : col < 240) (hr : row < 320) (hl : lane < 4) :
    displayAddr col row lane < laneCount := by
  simp only [displayAddr, laneCount]
  omega

/-- Different lanes of GRAM cells inside the array have different addresses. -/
theorem frameAddr_inj {r c l r' c' l' : Nat} (hc : c < 240) (hc' : c' < 240) (hl : l < 4) (hl' : l' < 4)
    (h : frameAddr r c l = frameAddr r' c' l') : r = r' ∧ c = c' ∧ l = l' := by
  simp only [frameAddr] at h
  omega

/-- Different lanes of output cells inside the array have different addresses. -/
theorem displayAddr_inj {c r l c' r' l' : Nat} (hr : r < 320) (hr' : r' < 320) (hl : l < 4) (hl' : l' < 4)
    (h : displayAddr c r l = displayAddr c' r' l') : c = c' ∧ r = r' ∧ l = l' := by
  simp only [displayAddr] at h
  omega

/-- R262: what a store leaves in its three lanes and in every other byte of the GRAM. -/
theorem putFrame_read (k : Block) (row col : Nat) (r g b : Byte) :
    (k.putFrame row col r g b).frame.read (frameAddr row col 0) = r ∧
    (k.putFrame row col r g b).frame.read (frameAddr row col 1) = g ∧
    (k.putFrame row col r g b).frame.read (frameAddr row col 2) = b ∧
    ∀ x, (∀ lane < 3, x ≠ frameAddr row col lane) →
      (k.putFrame row col r g b).frame.read x = k.frame.read x := by
  simp only [Block.putFrame]
  refine ⟨?_, ?_, ?_, fun x hx => ?_⟩
  · rw [Memory.read_write_ne _ _ (by simp [frameAddr]), Memory.read_write_ne _ _ (by simp [frameAddr]), Memory.read_write_same]
  · rw [Memory.read_write_ne _ _ (by simp [frameAddr]), Memory.read_write_same]
  · rw [Memory.read_write_same]
  · rw [Memory.read_write_ne _ _ (hx 2 (by omega)), Memory.read_write_ne _ _ (hx 1 (by omega)),
      Memory.read_write_ne _ _ (hx 0 (by omega))]

/-- R244: what the output write leaves in its four lanes and in every other byte of the output buffer. -/
theorem putDisplay_read (k : Block) (col row : Nat) (r g b : Byte) :
    (k.putDisplay col row r g b).display.read (displayAddr col row 0) = r ∧
    (k.putDisplay col row r g b).display.read (displayAddr col row 1) = g ∧
    (k.putDisplay col row r g b).display.read (displayAddr col row 2) = b ∧
    (k.putDisplay col row r g b).display.read (displayAddr col row 3) = 0xFF ∧
    ∀ x, (∀ lane < 4, x ≠ displayAddr col row lane) →
      (k.putDisplay col row r g b).display.read x = k.display.read x := by
  simp only [Block.putDisplay]
  refine ⟨?_, ?_, ?_, ?_, fun x hx => ?_⟩
  · rw [Memory.read_write_ne _ _ (by simp [displayAddr]), Memory.read_write_ne _ _ (by simp [displayAddr]),
      Memory.read_write_ne _ _ (by simp [displayAddr]), Memory.read_write_same]
  · rw [Memory.read_write_ne _ _ (by simp [displayAddr]), Memory.read_write_ne _ _ (by simp [displayAddr]),
      Memory.read_write_same]
  · rw [Memory.read_write_ne _ _ (by simp [displayAddr]), Memory.read_write_same]
  · rw [Memory.read_write_same]
  · rw [Memory.read_write_ne _ _ (hx 3 (by omega)), Memory.read_write_ne _ _ (hx 2 (by omega)),
      Memory.read_write_ne _ _ (hx 1 (by omega)), Memory.read_write_ne _ _ (hx 0 (by omega))]

/-- A store keeps the canonical form, the bounds and the unlisted alpha lanes of the GRAM. -/
theorem putFrame_keeps {k : Block} {row col : Nat} (r g b : Byte) (hw : k.frame.wf) (hi : k.frame.Within) (ha : k.frame.NoAlpha)
    (hr : row < 320) (hc : col < 240) :
    (k.putFrame row col r g b).frame.wf ∧ (k.putFrame row col r g b).frame.Within ∧ (k.putFrame row col r g b).frame.NoAlpha := by
  have hl : ∀ lane < 3, frameAddr row col lane % 4 ≠ 3 := fun lane hl => by
    simp only [frameAddr]
    omega
  refine ⟨Memory.wf_write _ _ (Memory.wf_write _ _ (Memory.wf_write _ _ hw)), ?_, ?_⟩
  · exact Memory.within_write _ (Memory.within_write _ (Memory.within_write _ hi (frameAddr_lt hr hc (by omega)))
      (frameAddr_lt hr hc (by omega))) (frameAddr_lt hr hc (by omega))
  · exact Memory.noAlpha_write _ (Memory.noAlpha_write _ (Memory.noAlpha_write _ ha (hl 0 (by omega))) (hl 1 (by omega)))
      (hl 2 (by omega))

/-- The output write keeps the canonical form and the bounds of the output buffer. -/
theorem putDisplay_keeps {k : Block} {col row : Nat} (r g b : Byte) (hw : k.display.wf) (hi : k.display.Within)
    (hc : col < 240) (hr : row < 320) :
    (k.putDisplay col row r g b).display.wf ∧ (k.putDisplay col row r g b).display.Within := by
  have hl : ∀ lane < 4, displayAddr col row lane < laneCount := fun lane hl => displayAddr_lt hc hr hl
  unfold Block.putDisplay
  dsimp only
  exact ⟨Memory.wf_write _ _ (Memory.wf_write _ _ (Memory.wf_write _ _ (Memory.wf_write _ _ hw))),
    Memory.within_write _ (Memory.within_write _ (Memory.within_write _ (Memory.within_write _ hi (hl 0 (by omega)))
      (hl 1 (by omega))) (hl 2 (by omega))) (hl 3 (by omega))⟩

end Sys2Proof.Machine
end

