-- ==== Sys2Proof/Laws/Cursor.lean ====
section
/-! SUPPORT. Everything the cursor operations and the pixel entry points can do. -/

namespace Sys2Proof.Machine

/-- The cursor fields and the GRAM are all that an operation of 45_gram_cursor.md may change. -/
def Block.withCursor (k : Block) (frame : Memory) (rowReg colReg : U9) (exhausted : Bool) : Block :=
  { k with frame := frame, rowReg := rowReg, colReg := colReg, exhausted := exhausted }

/-- R261: the whole effect of a cursor reset. -/
theorem cursorReset_eq (k : Block) :
    cursorReset k = { k with
      rowReg := (if k.mac.getLsbD 5 then k.colStart else k.rowStart)
      colReg := (if k.mac.getLsbD 5 then k.rowStart else k.colStart)
      exhausted := false } := by
  have : k.macFlag .rcx = k.mac.getLsbD 5 := rfl
  unfold cursorReset
  rw [this]
  cases k.mac.getLsbD 5 <;> rfl

/-- An advance changes the cursor alone. -/
theorem cursorAdvance_shape (k : Block) :
    cursorAdvance k = k.withCursor k.frame (cursorAdvance k).rowReg (cursorAdvance k).colReg (cursorAdvance k).exhausted := by
  unfold cursorAdvance setAxes parkCursor
  split
  · split
    · rfl
    · split <;> rfl
  · split <;> rfl

/-- An advance keeps the sentinel rule: an exhausted cursor stands at the sentinel. -/
theorem cursorAdvance_sentinel (k : Block) (h : k.exhausted = false) (he : (cursorAdvance k).exhausted = true) :
    (cursorAdvance k).rowReg = 0x1FF ∧ (cursorAdvance k).colReg = 0xFF := by
  revert he
  unfold cursorAdvance setAxes parkCursor
  split
  · split
    · exact fun _ => ⟨rfl, rfl⟩
    · split <;> intro he <;> rw [h] at he <;> cases he
  · split <;> intro he <;> rw [h] at he <;> cases he

/-- R263 to R266 without row/column exchange. -/
theorem cursorAdvance_column (k : Block) (h : k.macFlag .rcx = false) :
    cursorAdvance k =
      if k.colReg = k.colEnd then
        (if k.rowReg = k.rowEnd ∧ k.colStart ≤ k.colEnd ∧ k.rowStart ≤ k.rowEnd then parkCursor k
        else { k with rowReg := (k.rowReg + 1) &&& 0x1FF, colReg := k.colStart })
      else { k with colReg := (if k.macFlag .cao then k.colReg - 1 else k.colReg + 1) &&& 0xFF } := by
  simp only [cursorAdvance, fastAxis, slowAxis, slowMask, passComplete, setAxes, fastStep, fastReversed, fastMask, h,
    Bool.and_eq_true, decide_eq_true_eq, and_assoc]
  rfl

/-- R263 to R266 with row/column exchange. -/
theorem cursorAdvance_row (k : Block) (h : k.macFlag .rcx = true) :
    cursorAdvance k =
      if k.rowReg = k.colEnd then
        (if k.colReg = k.rowEnd ∧ k.colStart ≤ k.colEnd ∧ k.rowStart ≤ k.rowEnd then parkCursor k
        else { k with rowReg := k.colStart, colReg := (k.colReg + 1) &&& 0xFF })
      else { k with rowReg := (if k.macFlag .rao then k.rowReg - 1 else k.rowReg + 1) &&& 0x1FF } := by
  simp only [cursorAdvance, fastAxis, slowAxis, slowMask, passComplete, setAxes, fastStep, fastReversed, fastMask, h,
    Bool.and_eq_true, decide_eq_true_eq, and_assoc]
  rfl

/-- R267: a store into an exhausted cursor is dropped. -/
theorem storePixel_exhausted (r g b : Byte) {k : Block} (h : k.exhausted = true) : storePixel r g b k = k := by
  simp [storePixel, h]

/-- R262: a store changes the GRAM and the cursor alone. -/
theorem storePixel_shape (r g b : Byte) (k : Block) :
    storePixel r g b k = k.withCursor (storePixel r g b k).frame (storePixel r g b k).rowReg (storePixel r g b k).colReg
      (storePixel r g b k).exhausted := by
  unfold storePixel
  split
  · rfl
  · split
    · conv_lhs => rw [cursorAdvance_shape]
      rw [cursorAdvance_shape]; rfl
    · conv_lhs => rw [cursorAdvance_shape]
      rw [cursorAdvance_shape]; rfl

/-- R262: what a store leaves in the GRAM. -/
theorem storePixel_frame (r g b : Byte) {k : Block} (h : k.exhausted = false) :
    (storePixel r g b k).frame =
      if cursorInGram k then (k.putFrame k.rowReg.toNat k.colReg.toNat r g b).frame else k.frame := by
  unfold storePixel
  rw [if_neg (by simp [h]), cursorAdvance_shape]
  split <;> rfl

/-- A store does not change where the cursor goes: the store and the advance are independent. -/
theorem storePixel_cursor (r g b : Byte) {k : Block} (h : k.exhausted = false) :
    (storePixel r g b k).rowReg = (cursorAdvance k).rowReg ∧ (storePixel r g b k).colReg = (cursorAdvance k).colReg ∧
      (storePixel r g b k).exhausted = (cursorAdvance k).exhausted := by
  unfold storePixel
  rw [if_neg (by simp [h])]
  split
  · unfold cursorAdvance setAxes parkCursor
    split
    · split
      · rename_i hc hp
        rw [if_pos (show fastAxis k = k.colEnd from hc), if_pos (show passComplete k = true from hp)]
        exact ⟨rfl, rfl, rfl⟩
      · rename_i hc hp
        rw [if_pos (show fastAxis k = k.colEnd from hc), if_neg (show ¬ passComplete k = true from hp)]
        split <;> rename_i hx
        · rw [if_pos (show k.macFlag .rcx = true from hx)]; exact ⟨rfl, rfl, rfl⟩
        · rw [if_neg (show ¬ k.macFlag .rcx = true from hx)]; exact ⟨rfl, rfl, rfl⟩
    · rename_i hc
      rw [if_neg (show ¬ fastAxis k = k.colEnd from hc)]
      split <;> rename_i hx
      · rw [if_pos (show k.macFlag .rcx = true from hx)]; exact ⟨rfl, rfl, rfl⟩
      · rw [if_neg (show ¬ k.macFlag .rcx = true from hx)]; exact ⟨rfl, rfl, rfl⟩
  · exact ⟨rfl, rfl, rfl⟩

/-- The elements of the serial path, which no operation of the cursor reads or writes (R260, R262). -/
def Block.withSerial (k : Block) (param : U32) (r g b : Byte) : Block :=
  { k with param := param, ifRed := r, ifGreen := g, ifBlue := b }

/-- An advance does not read or write the elements of the serial path. -/
theorem cursorAdvance_withSerial (p : U32) (r g b : Byte) (k : Block) :
    cursorAdvance (k.withSerial p r g b) = (cursorAdvance k).withSerial p r g b := by
  unfold cursorAdvance setAxes parkCursor
  by_cases h1 : fastAxis k = k.colEnd
  · rw [if_pos (show fastAxis (k.withSerial p r g b) = (k.withSerial p r g b).colEnd from h1), if_pos h1]
    by_cases h2 : passComplete k = true
    · rw [if_pos (show passComplete (k.withSerial p r g b) = true from h2), if_pos h2]; rfl
    · rw [if_neg (show ¬ passComplete (k.withSerial p r g b) = true from h2), if_neg h2]
      by_cases h3 : k.macFlag .rcx = true
      · rw [if_pos (show (k.withSerial p r g b).macFlag .rcx = true from h3), if_pos h3]; rfl
      · rw [if_neg (show ¬ (k.withSerial p r g b).macFlag .rcx = true from h3), if_neg h3]; rfl
  · rw [if_neg (show ¬ fastAxis (k.withSerial p r g b) = (k.withSerial p r g b).colEnd from h1), if_neg h1]
    by_cases h3 : k.macFlag .rcx = true
    · rw [if_pos (show (k.withSerial p r g b).macFlag .rcx = true from h3), if_pos h3]; rfl
    · rw [if_neg (show ¬ (k.withSerial p r g b).macFlag .rcx = true from h3), if_neg h3]; rfl

/-- A store does not read or write the elements of the serial path. -/
theorem storePixel_withSerial (x y z : Byte) (p : U32) (r g b : Byte) (k : Block) :
    storePixel x y z (k.withSerial p r g b) = (storePixel x y z k).withSerial p r g b := by
  unfold storePixel
  by_cases h1 : k.exhausted = true
  · rw [if_pos (show (k.withSerial p r g b).exhausted = true from h1), if_pos h1]
  · rw [if_neg (show ¬ (k.withSerial p r g b).exhausted = true from h1), if_neg h1, ← cursorAdvance_withSerial]
    by_cases h2 : cursorInGram k = true
    · rw [if_pos (show cursorInGram (k.withSerial p r g b) = true from h2), if_pos h2]; rfl
    · rw [if_neg (show ¬ cursorInGram (k.withSerial p r g b) = true from h2), if_neg h2]

/-- R234: an 18-bpp call stores, or faults with the state untouched. -/
theorem pixel18_ok {r g b : Byte} (h : r.toNat < 64 ∧ g.toNat < 64 ∧ b.toNat < 64) (k : Block) :
    pixel18 r g b k = .ok (storePixel (expand6 r) (expand6 g) (expand6 b) k) := if_pos h

theorem pixel18_error {r g b : Byte} (h : ¬ (r.toNat < 64 ∧ g.toNat < 64 ∧ b.toNat < 64)) (k : Block) :
    pixel18 r g b k = .error .pixel18Range := if_neg h

/-- R235: a 16-bpp call stores, or faults with the state untouched. -/
theorem pixel16_ok {r g b : Byte} (h : r.toNat < 32 ∧ g.toNat < 64 ∧ b.toNat < 32) (k : Block) :
    pixel16 r g b k = .ok (storePixel (k.lut[r.toNat]'(by omega)) (k.lut[32 + g.toNat]'(by omega))
      (k.lut[b.toNat]'(by omega)) k) := dif_pos h

theorem pixel16_error {r g b : Byte} (h : ¬ (r.toNat < 32 ∧ g.toNat < 64 ∧ b.toNat < 32)) (k : Block) :
    pixel16 r g b k = .error .pixel16Range := dif_neg h

/-- R236: a 12-bpp call stores, or faults with the state untouched. -/
theorem pixel12_ok {r g b : Byte} (h : r.toNat < 16 ∧ g.toNat < 16 ∧ b.toNat < 16) (k : Block) :
    ∃ x y z, k.lut[(widen4to5 r).toNat]? = some x ∧ k.lut[32 + (widen4to6 g).toNat]? = some y ∧
      k.lut[(widen4to5 b).toNat]? = some z ∧ pixel12 r g b k = .ok (storePixel x y z k) := by
  have h1 := widen4to5_lt r h.1
  have h2 := widen4to6_lt g h.2.1
  have h3 := widen4to5_lt b h.2.2
  exact ⟨_, _, _, Vector.getElem?_eq_getElem (by omega), Vector.getElem?_eq_getElem (by omega),
    Vector.getElem?_eq_getElem (by omega), dif_pos h⟩

theorem pixel12_error {r g b : Byte} (h : ¬ (r.toNat < 16 ∧ g.toNat < 16 ∧ b.toNat < 16)) (k : Block) :
    pixel12 r g b k = .error .pixel12Range := dif_neg h

/-- What an entry point that completes has done: one store of some triplet. -/
theorem pixel18_stores {r g b : Byte} {k k' : Block} (h : pixel18 r g b k = .ok k') :
    k' = storePixel (expand6 r) (expand6 g) (expand6 b) k := by
  unfold pixel18 at h
  split at h <;> simp_all

theorem pixel16_stores {r g b : Byte} {k k' : Block} (h : pixel16 r g b k = .ok k') :
    ∃ x y z, k' = storePixel x y z k := by
  unfold pixel16 at h
  split at h
  · exact ⟨_, _, _, by simpa using h.symm⟩
  · simp at h

theorem pixel12_stores {r g b : Byte} {k k' : Block} (h : pixel12 r g b k = .ok k') :
    ∃ x y z, k' = storePixel x y z k := by
  unfold pixel12 at h
  split at h
  · exact ⟨_, _, _, by simpa using h.symm⟩
  · simp at h

end Sys2Proof.Machine
end

