-- ==== Sys2Proof/Laws/State.lean ====
section
/-! SUPPORT. One lemma for each field of each named update of the state: what the update leaves there. -/

namespace Sys2Proof.Machine

variable (k : Block) (s : State)

/-! ### `Block.setMode` -/

@[simp] theorem Block.setMode_regs (f : ModeFlag) (b : Bool) : (k.setMode f b).regs = k.regs := rfl
@[simp] theorem Block.setMode_fifo (f : ModeFlag) (b : Bool) : (k.setMode f b).fifo = k.fifo := rfl
@[simp] theorem Block.setMode_cmd (f : ModeFlag) (b : Bool) : (k.setMode f b).cmd = k.cmd := rfl
@[simp] theorem Block.setMode_param (f : ModeFlag) (b : Bool) : (k.setMode f b).param = k.param := rfl
@[simp] theorem Block.setMode_mode (f : ModeFlag) (b : Bool) : (k.setMode f b).mode = putBit k.mode (modeBit f) b := rfl
@[simp] theorem Block.setMode_mac (f : ModeFlag) (b : Bool) : (k.setMode f b).mac = k.mac := rfl
@[simp] theorem Block.setMode_colStart (f : ModeFlag) (b : Bool) : (k.setMode f b).colStart = k.colStart := rfl
@[simp] theorem Block.setMode_colEnd (f : ModeFlag) (b : Bool) : (k.setMode f b).colEnd = k.colEnd := rfl
@[simp] theorem Block.setMode_rowStart (f : ModeFlag) (b : Bool) : (k.setMode f b).rowStart = k.rowStart := rfl
@[simp] theorem Block.setMode_rowEnd (f : ModeFlag) (b : Bool) : (k.setMode f b).rowEnd = k.rowEnd := rfl
@[simp] theorem Block.setMode_partialStart (f : ModeFlag) (b : Bool) : (k.setMode f b).partialStart = k.partialStart := rfl
@[simp] theorem Block.setMode_partialEnd (f : ModeFlag) (b : Bool) : (k.setMode f b).partialEnd = k.partialEnd := rfl
@[simp] theorem Block.setMode_topArea (f : ModeFlag) (b : Bool) : (k.setMode f b).topArea = k.topArea := rfl
@[simp] theorem Block.setMode_scrollArea (f : ModeFlag) (b : Bool) : (k.setMode f b).scrollArea = k.scrollArea := rfl
@[simp] theorem Block.setMode_bottomArea (f : ModeFlag) (b : Bool) : (k.setMode f b).bottomArea = k.bottomArea := rfl
@[simp] theorem Block.setMode_scrollStart (f : ModeFlag) (b : Bool) : (k.setMode f b).scrollStart = k.scrollStart := rfl
@[simp] theorem Block.setMode_row (f : ModeFlag) (b : Bool) : (k.setMode f b).row = k.row := rfl
@[simp] theorem Block.setMode_col (f : ModeFlag) (b : Bool) : (k.setMode f b).col = k.col := rfl
@[simp] theorem Block.setMode_srcRow (f : ModeFlag) (b : Bool) : (k.setMode f b).srcRow = k.srcRow := rfl
@[simp] theorem Block.setMode_dstRow (f : ModeFlag) (b : Bool) : (k.setMode f b).dstRow = k.dstRow := rfl
@[simp] theorem Block.setMode_colDir (f : ModeFlag) (b : Bool) : (k.setMode f b).colDir = k.colDir := rfl
@[simp] theorem Block.setMode_rowReg (f : ModeFlag) (b : Bool) : (k.setMode f b).rowReg = k.rowReg := rfl
@[simp] theorem Block.setMode_colReg (f : ModeFlag) (b : Bool) : (k.setMode f b).colReg = k.colReg := rfl
@[simp] theorem Block.setMode_exhausted (f : ModeFlag) (b : Bool) : (k.setMode f b).exhausted = k.exhausted := rfl
@[simp] theorem Block.setMode_ifBpp (f : ModeFlag) (b : Bool) : (k.setMode f b).ifBpp = k.ifBpp := rfl
@[simp] theorem Block.setMode_ifCtl (f : ModeFlag) (b : Bool) : (k.setMode f b).ifCtl = k.ifCtl := rfl
@[simp] theorem Block.setMode_ifRed (f : ModeFlag) (b : Bool) : (k.setMode f b).ifRed = k.ifRed := rfl
@[simp] theorem Block.setMode_ifGreen (f : ModeFlag) (b : Bool) : (k.setMode f b).ifGreen = k.ifGreen := rfl
@[simp] theorem Block.setMode_ifBlue (f : ModeFlag) (b : Bool) : (k.setMode f b).ifBlue = k.ifBlue := rfl
@[simp] theorem Block.setMode_gamma (f : ModeFlag) (b : Bool) : (k.setMode f b).gamma = k.gamma := rfl
@[simp] theorem Block.setMode_gammaTable0 (f : ModeFlag) (b : Bool) : (k.setMode f b).gammaTable0 = k.gammaTable0 := rfl
@[simp] theorem Block.setMode_gammaTable1 (f : ModeFlag) (b : Bool) : (k.setMode f b).gammaTable1 = k.gammaTable1 := rfl
@[simp] theorem Block.setMode_lut (f : ModeFlag) (b : Bool) : (k.setMode f b).lut = k.lut := rfl
@[simp] theorem Block.setMode_frame (f : ModeFlag) (b : Bool) : (k.setMode f b).frame = k.frame := rfl
@[simp] theorem Block.setMode_display (f : ModeFlag) (b : Bool) : (k.setMode f b).display = k.display := rfl
@[simp] theorem Block.setMode_tear (f : ModeFlag) (b : Bool) : (k.setMode f b).tear = k.tear := rfl
@[simp] theorem Block.setMode_cbw (f : ModeFlag) (b : Bool) : (k.setMode f b).cbw = k.cbw := rfl
@[simp] theorem Block.setMode_cbwIndex (f : ModeFlag) (b : Bool) : (k.setMode f b).cbwIndex = k.cbwIndex := rfl
@[simp] theorem Block.setMode_csw (f : ModeFlag) (b : Bool) : (k.setMode f b).csw = k.csw := rfl
@[simp] theorem Block.setMode_cswIndex (f : ModeFlag) (b : Bool) : (k.setMode f b).cswIndex = k.cswIndex := rfl
@[simp] theorem Block.setMode_dataOffset (f : ModeFlag) (b : Bool) : (k.setMode f b).dataOffset = k.dataOffset := rfl
@[simp] theorem Block.setMode_dataLength (f : ModeFlag) (b : Bool) : (k.setMode f b).dataLength = k.dataLength := rfl

/-! ### `Block.writeReg` -/

@[simp] theorem Block.writeReg_regs (i : Fin 24) (v : Byte) : (k.writeReg i v).regs = k.regs.set i v := rfl
@[simp] theorem Block.writeReg_fifo (i : Fin 24) (v : Byte) : (k.writeReg i v).fifo = k.fifo := rfl
@[simp] theorem Block.writeReg_cmd (i : Fin 24) (v : Byte) : (k.writeReg i v).cmd = k.cmd := rfl
@[simp] theorem Block.writeReg_param (i : Fin 24) (v : Byte) : (k.writeReg i v).param = k.param := rfl
@[simp] theorem Block.writeReg_mode (i : Fin 24) (v : Byte) : (k.writeReg i v).mode = k.mode := rfl
@[simp] theorem Block.writeReg_mac (i : Fin 24) (v : Byte) : (k.writeReg i v).mac = k.mac := rfl
@[simp] theorem Block.writeReg_colStart (i : Fin 24) (v : Byte) : (k.writeReg i v).colStart = k.colStart := rfl
@[simp] theorem Block.writeReg_colEnd (i : Fin 24) (v : Byte) : (k.writeReg i v).colEnd = k.colEnd := rfl
@[simp] theorem Block.writeReg_rowStart (i : Fin 24) (v : Byte) : (k.writeReg i v).rowStart = k.rowStart := rfl
@[simp] theorem Block.writeReg_rowEnd (i : Fin 24) (v : Byte) : (k.writeReg i v).rowEnd = k.rowEnd := rfl
@[simp] theorem Block.writeReg_partialStart (i : Fin 24) (v : Byte) : (k.writeReg i v).partialStart = k.partialStart := rfl
@[simp] theorem Block.writeReg_partialEnd (i : Fin 24) (v : Byte) : (k.writeReg i v).partialEnd = k.partialEnd := rfl
@[simp] theorem Block.writeReg_topArea (i : Fin 24) (v : Byte) : (k.writeReg i v).topArea = k.topArea := rfl
@[simp] theorem Block.writeReg_scrollArea (i : Fin 24) (v : Byte) : (k.writeReg i v).scrollArea = k.scrollArea := rfl
@[simp] theorem Block.writeReg_bottomArea (i : Fin 24) (v : Byte) : (k.writeReg i v).bottomArea = k.bottomArea := rfl
@[simp] theorem Block.writeReg_scrollStart (i : Fin 24) (v : Byte) : (k.writeReg i v).scrollStart = k.scrollStart := rfl
@[simp] theorem Block.writeReg_row (i : Fin 24) (v : Byte) : (k.writeReg i v).row = k.row := rfl
@[simp] theorem Block.writeReg_col (i : Fin 24) (v : Byte) : (k.writeReg i v).col = k.col := rfl
@[simp] theorem Block.writeReg_srcRow (i : Fin 24) (v : Byte) : (k.writeReg i v).srcRow = k.srcRow := rfl
@[simp] theorem Block.writeReg_dstRow (i : Fin 24) (v : Byte) : (k.writeReg i v).dstRow = k.dstRow := rfl
@[simp] theorem Block.writeReg_colDir (i : Fin 24) (v : Byte) : (k.writeReg i v).colDir = k.colDir := rfl
@[simp] theorem Block.writeReg_rowReg (i : Fin 24) (v : Byte) : (k.writeReg i v).rowReg = k.rowReg := rfl
@[simp] theorem Block.writeReg_colReg (i : Fin 24) (v : Byte) : (k.writeReg i v).colReg = k.colReg := rfl
@[simp] theorem Block.writeReg_exhausted (i : Fin 24) (v : Byte) : (k.writeReg i v).exhausted = k.exhausted := rfl
@[simp] theorem Block.writeReg_ifBpp (i : Fin 24) (v : Byte) : (k.writeReg i v).ifBpp = k.ifBpp := rfl
@[simp] theorem Block.writeReg_ifCtl (i : Fin 24) (v : Byte) : (k.writeReg i v).ifCtl = k.ifCtl := rfl
@[simp] theorem Block.writeReg_ifRed (i : Fin 24) (v : Byte) : (k.writeReg i v).ifRed = k.ifRed := rfl
@[simp] theorem Block.writeReg_ifGreen (i : Fin 24) (v : Byte) : (k.writeReg i v).ifGreen = k.ifGreen := rfl
@[simp] theorem Block.writeReg_ifBlue (i : Fin 24) (v : Byte) : (k.writeReg i v).ifBlue = k.ifBlue := rfl
@[simp] theorem Block.writeReg_gamma (i : Fin 24) (v : Byte) : (k.writeReg i v).gamma = k.gamma := rfl
@[simp] theorem Block.writeReg_gammaTable0 (i : Fin 24) (v : Byte) : (k.writeReg i v).gammaTable0 = k.gammaTable0 := rfl
@[simp] theorem Block.writeReg_gammaTable1 (i : Fin 24) (v : Byte) : (k.writeReg i v).gammaTable1 = k.gammaTable1 := rfl
@[simp] theorem Block.writeReg_lut (i : Fin 24) (v : Byte) : (k.writeReg i v).lut = k.lut := rfl
@[simp] theorem Block.writeReg_frame (i : Fin 24) (v : Byte) : (k.writeReg i v).frame = k.frame := rfl
@[simp] theorem Block.writeReg_display (i : Fin 24) (v : Byte) : (k.writeReg i v).display = k.display := rfl
@[simp] theorem Block.writeReg_tear (i : Fin 24) (v : Byte) : (k.writeReg i v).tear = k.tear := rfl
@[simp] theorem Block.writeReg_cbw (i : Fin 24) (v : Byte) : (k.writeReg i v).cbw = k.cbw := rfl
@[simp] theorem Block.writeReg_cbwIndex (i : Fin 24) (v : Byte) : (k.writeReg i v).cbwIndex = k.cbwIndex := rfl
@[simp] theorem Block.writeReg_csw (i : Fin 24) (v : Byte) : (k.writeReg i v).csw = k.csw := rfl
@[simp] theorem Block.writeReg_cswIndex (i : Fin 24) (v : Byte) : (k.writeReg i v).cswIndex = k.cswIndex := rfl
@[simp] theorem Block.writeReg_dataOffset (i : Fin 24) (v : Byte) : (k.writeReg i v).dataOffset = k.dataOffset := rfl
@[simp] theorem Block.writeReg_dataLength (i : Fin 24) (v : Byte) : (k.writeReg i v).dataLength = k.dataLength := rfl

/-! ### `Block.putFrame` -/

@[simp] theorem Block.putFrame_regs (r c : Nat) (x y z : Byte) : (k.putFrame r c x y z).regs = k.regs := rfl
@[simp] theorem Block.putFrame_fifo (r c : Nat) (x y z : Byte) : (k.putFrame r c x y z).fifo = k.fifo := rfl
@[simp] theorem Block.putFrame_cmd (r c : Nat) (x y z : Byte) : (k.putFrame r c x y z).cmd = k.cmd := rfl
@[simp] theorem Block.putFrame_param (r c : Nat) (x y z : Byte) : (k.putFrame r c x y z).param = k.param := rfl
@[simp] theorem Block.putFrame_mode (r c : Nat) (x y z : Byte) : (k.putFrame r c x y z).mode = k.mode := rfl
@[simp] theorem Block.putFrame_mac (r c : Nat) (x y z : Byte) : (k.putFrame r c x y z).mac = k.mac := rfl
@[simp] theorem Block.putFrame_colStart (r c : Nat) (x y z : Byte) : (k.putFrame r c x y z).colStart = k.colStart := rfl
@[simp] theorem Block.putFrame_colEnd (r c : Nat) (x y z : Byte) : (k.putFrame r c x y z).colEnd = k.colEnd := rfl
@[simp] theorem Block.putFrame_rowStart (r c : Nat) (x y z : Byte) : (k.putFrame r c x y z).rowStart = k.rowStart := rfl
@[simp] theorem Block.putFrame_rowEnd (r c : Nat) (x y z : Byte) : (k.putFrame r c x y z).rowEnd = k.rowEnd := rfl
@[simp] theorem Block.putFrame_partialStart (r c : Nat) (x y z : Byte) : (k.putFrame r c x y z).partialStart = k.partialStart := rfl
@[simp] theorem Block.putFrame_partialEnd (r c : Nat) (x y z : Byte) : (k.putFrame r c x y z).partialEnd = k.partialEnd := rfl
@[simp] theorem Block.putFrame_topArea (r c : Nat) (x y z : Byte) : (k.putFrame r c x y z).topArea = k.topArea := rfl
@[simp] theorem Block.putFrame_scrollArea (r c : Nat) (x y z : Byte) : (k.putFrame r c x y z).scrollArea = k.scrollArea := rfl
@[simp] theorem Block.putFrame_bottomArea (r c : Nat) (x y z : Byte) : (k.putFrame r c x y z).bottomArea = k.bottomArea := rfl
@[simp] theorem Block.putFrame_scrollStart (r c : Nat) (x y z : Byte) : (k.putFrame r c x y z).scrollStart = k.scrollStart := rfl
@[simp] theorem Block.putFrame_row (r c : Nat) (x y z : Byte) : (k.putFrame r c x y z).row = k.row := rfl
@[simp] theorem Block.putFrame_col (r c : Nat) (x y z : Byte) : (k.putFrame r c x y z).col = k.col := rfl
@[simp] theorem Block.putFrame_srcRow (r c : Nat) (x y z : Byte) : (k.putFrame r c x y z).srcRow = k.srcRow := rfl
@[simp] theorem Block.putFrame_dstRow (r c : Nat) (x y z : Byte) : (k.putFrame r c x y z).dstRow = k.dstRow := rfl
@[simp] theorem Block.putFrame_colDir (r c : Nat) (x y z : Byte) : (k.putFrame r c x y z).colDir = k.colDir := rfl
@[simp] theorem Block.putFrame_rowReg (r c : Nat) (x y z : Byte) : (k.putFrame r c x y z).rowReg = k.rowReg := rfl
@[simp] theorem Block.putFrame_colReg (r c : Nat) (x y z : Byte) : (k.putFrame r c x y z).colReg = k.colReg := rfl
@[simp] theorem Block.putFrame_exhausted (r c : Nat) (x y z : Byte) : (k.putFrame r c x y z).exhausted = k.exhausted := rfl
@[simp] theorem Block.putFrame_ifBpp (r c : Nat) (x y z : Byte) : (k.putFrame r c x y z).ifBpp = k.ifBpp := rfl
@[simp] theorem Block.putFrame_ifCtl (r c : Nat) (x y z : Byte) : (k.putFrame r c x y z).ifCtl = k.ifCtl := rfl
@[simp] theorem Block.putFrame_ifRed (r c : Nat) (x y z : Byte) : (k.putFrame r c x y z).ifRed = k.ifRed := rfl
@[simp] theorem Block.putFrame_ifGreen (r c : Nat) (x y z : Byte) : (k.putFrame r c x y z).ifGreen = k.ifGreen := rfl
@[simp] theorem Block.putFrame_ifBlue (r c : Nat) (x y z : Byte) : (k.putFrame r c x y z).ifBlue = k.ifBlue := rfl
@[simp] theorem Block.putFrame_gamma (r c : Nat) (x y z : Byte) : (k.putFrame r c x y z).gamma = k.gamma := rfl
@[simp] theorem Block.putFrame_gammaTable0 (r c : Nat) (x y z : Byte) : (k.putFrame r c x y z).gammaTable0 = k.gammaTable0 := rfl
@[simp] theorem Block.putFrame_gammaTable1 (r c : Nat) (x y z : Byte) : (k.putFrame r c x y z).gammaTable1 = k.gammaTable1 := rfl
@[simp] theorem Block.putFrame_lut (r c : Nat) (x y z : Byte) : (k.putFrame r c x y z).lut = k.lut := rfl
@[simp] theorem Block.putFrame_frame (r c : Nat) (x y z : Byte) : (k.putFrame r c x y z).frame = ((k.frame.write (frameAddr r c 0) x).write (frameAddr r c 1) y).write (frameAddr r c 2) z := rfl
@[simp] theorem Block.putFrame_display (r c : Nat) (x y z : Byte) : (k.putFrame r c x y z).display = k.display := rfl
@[simp] theorem Block.putFrame_tear (r c : Nat) (x y z : Byte) : (k.putFrame r c x y z).tear = k.tear := rfl
@[simp] theorem Block.putFrame_cbw (r c : Nat) (x y z : Byte) : (k.putFrame r c x y z).cbw = k.cbw := rfl
@[simp] theorem Block.putFrame_cbwIndex (r c : Nat) (x y z : Byte) : (k.putFrame r c x y z).cbwIndex = k.cbwIndex := rfl
@[simp] theorem Block.putFrame_csw (r c : Nat) (x y z : Byte) : (k.putFrame r c x y z).csw = k.csw := rfl
@[simp] theorem Block.putFrame_cswIndex (r c : Nat) (x y z : Byte) : (k.putFrame r c x y z).cswIndex = k.cswIndex := rfl
@[simp] theorem Block.putFrame_dataOffset (r c : Nat) (x y z : Byte) : (k.putFrame r c x y z).dataOffset = k.dataOffset := rfl
@[simp] theorem Block.putFrame_dataLength (r c : Nat) (x y z : Byte) : (k.putFrame r c x y z).dataLength = k.dataLength := rfl

/-! ### `Block.putDisplay` -/

@[simp] theorem Block.putDisplay_regs (c r : Nat) (x y z : Byte) : (k.putDisplay c r x y z).regs = k.regs := rfl
@[simp] theorem Block.putDisplay_fifo (c r : Nat) (x y z : Byte) : (k.putDisplay c r x y z).fifo = k.fifo := rfl
@[simp] theorem Block.putDisplay_cmd (c r : Nat) (x y z : Byte) : (k.putDisplay c r x y z).cmd = k.cmd := rfl
@[simp] theorem Block.putDisplay_param (c r : Nat) (x y z : Byte) : (k.putDisplay c r x y z).param = k.param := rfl
@[simp] theorem Block.putDisplay_mode (c r : Nat) (x y z : Byte) : (k.putDisplay c r x y z).mode = k.mode := rfl
@[simp] theorem Block.putDisplay_mac (c r : Nat) (x y z : Byte) : (k.putDisplay c r x y z).mac = k.mac := rfl
@[simp] theorem Block.putDisplay_colStart (c r : Nat) (x y z : Byte) : (k.putDisplay c r x y z).colStart = k.colStart := rfl
@[simp] theorem Block.putDisplay_colEnd (c r : Nat) (x y z : Byte) : (k.putDisplay c r x y z).colEnd = k.colEnd := rfl
@[simp] theorem Block.putDisplay_rowStart (c r : Nat) (x y z : Byte) : (k.putDisplay c r x y z).rowStart = k.rowStart := rfl
@[simp] theorem Block.putDisplay_rowEnd (c r : Nat) (x y z : Byte) : (k.putDisplay c r x y z).rowEnd = k.rowEnd := rfl
@[simp] theorem Block.putDisplay_partialStart (c r : Nat) (x y z : Byte) : (k.putDisplay c r x y z).partialStart = k.partialStart := rfl
@[simp] theorem Block.putDisplay_partialEnd (c r : Nat) (x y z : Byte) : (k.putDisplay c r x y z).partialEnd = k.partialEnd := rfl
@[simp] theorem Block.putDisplay_topArea (c r : Nat) (x y z : Byte) : (k.putDisplay c r x y z).topArea = k.topArea := rfl
@[simp] theorem Block.putDisplay_scrollArea (c r : Nat) (x y z : Byte) : (k.putDisplay c r x y z).scrollArea = k.scrollArea := rfl
@[simp] theorem Block.putDisplay_bottomArea (c r : Nat) (x y z : Byte) : (k.putDisplay c r x y z).bottomArea = k.bottomArea := rfl
@[simp] theorem Block.putDisplay_scrollStart (c r : Nat) (x y z : Byte) : (k.putDisplay c r x y z).scrollStart = k.scrollStart := rfl
@[simp] theorem Block.putDisplay_row (c r : Nat) (x y z : Byte) : (k.putDisplay c r x y z).row = k.row := rfl
@[simp] theorem Block.putDisplay_col (c r : Nat) (x y z : Byte) : (k.putDisplay c r x y z).col = k.col := rfl
@[simp] theorem Block.putDisplay_srcRow (c r : Nat) (x y z : Byte) : (k.putDisplay c r x y z).srcRow = k.srcRow := rfl
@[simp] theorem Block.putDisplay_dstRow (c r : Nat) (x y z : Byte) : (k.putDisplay c r x y z).dstRow = k.dstRow := rfl
@[simp] theorem Block.putDisplay_colDir (c r : Nat) (x y z : Byte) : (k.putDisplay c r x y z).colDir = k.colDir := rfl
@[simp] theorem Block.putDisplay_rowReg (c r : Nat) (x y z : Byte) : (k.putDisplay c r x y z).rowReg = k.rowReg := rfl
@[simp] theorem Block.putDisplay_colReg (c r : Nat) (x y z : Byte) : (k.putDisplay c r x y z).colReg = k.colReg := rfl
@[simp] theorem Block.putDisplay_exhausted (c r : Nat) (x y z : Byte) : (k.putDisplay c r x y z).exhausted = k.exhausted := rfl
@[simp] theorem Block.putDisplay_ifBpp (c r : Nat) (x y z : Byte) : (k.putDisplay c r x y z).ifBpp = k.ifBpp := rfl
@[simp] theorem Block.putDisplay_ifCtl (c r : Nat) (x y z : Byte) : (k.putDisplay c r x y z).ifCtl = k.ifCtl := rfl
@[simp] theorem Block.putDisplay_ifRed (c r : Nat) (x y z : Byte) : (k.putDisplay c r x y z).ifRed = k.ifRed := rfl
@[simp] theorem Block.putDisplay_ifGreen (c r : Nat) (x y z : Byte) : (k.putDisplay c r x y z).ifGreen = k.ifGreen := rfl
@[simp] theorem Block.putDisplay_ifBlue (c r : Nat) (x y z : Byte) : (k.putDisplay c r x y z).ifBlue = k.ifBlue := rfl
@[simp] theorem Block.putDisplay_gamma (c r : Nat) (x y z : Byte) : (k.putDisplay c r x y z).gamma = k.gamma := rfl
@[simp] theorem Block.putDisplay_gammaTable0 (c r : Nat) (x y z : Byte) : (k.putDisplay c r x y z).gammaTable0 = k.gammaTable0 := rfl
@[simp] theorem Block.putDisplay_gammaTable1 (c r : Nat) (x y z : Byte) : (k.putDisplay c r x y z).gammaTable1 = k.gammaTable1 := rfl
@[simp] theorem Block.putDisplay_lut (c r : Nat) (x y z : Byte) : (k.putDisplay c r x y z).lut = k.lut := rfl
@[simp] theorem Block.putDisplay_frame (c r : Nat) (x y z : Byte) : (k.putDisplay c r x y z).frame = k.frame := rfl
@[simp] theorem Block.putDisplay_display (c r : Nat) (x y z : Byte) : (k.putDisplay c r x y z).display = (((k.display.write (displayAddr c r 0) x).write (displayAddr c r 1) y).write (displayAddr c r 2) z).write (displayAddr c r 3) 0xFF := rfl
@[simp] theorem Block.putDisplay_tear (c r : Nat) (x y z : Byte) : (k.putDisplay c r x y z).tear = k.tear := rfl
@[simp] theorem Block.putDisplay_cbw (c r : Nat) (x y z : Byte) : (k.putDisplay c r x y z).cbw = k.cbw := rfl
@[simp] theorem Block.putDisplay_cbwIndex (c r : Nat) (x y z : Byte) : (k.putDisplay c r x y z).cbwIndex = k.cbwIndex := rfl
@[simp] theorem Block.putDisplay_csw (c r : Nat) (x y z : Byte) : (k.putDisplay c r x y z).csw = k.csw := rfl
@[simp] theorem Block.putDisplay_cswIndex (c r : Nat) (x y z : Byte) : (k.putDisplay c r x y z).cswIndex = k.cswIndex := rfl
@[simp] theorem Block.putDisplay_dataOffset (c r : Nat) (x y z : Byte) : (k.putDisplay c r x y z).dataOffset = k.dataOffset := rfl
@[simp] theorem Block.putDisplay_dataLength (c r : Nat) (x y z : Byte) : (k.putDisplay c r x y z).dataLength = k.dataLength := rfl

/-! ### `State.taken` -/

@[simp] theorem State.taken_block (rest : List Op) : (s.taken rest).block = s.block := rfl
@[simp] theorem State.taken_deviceType (rest : List Op) : (s.taken rest).deviceType = s.deviceType := rfl
@[simp] theorem State.taken_requestedRevision (rest : List Op) : (s.taken rest).requestedRevision = s.requestedRevision := rfl
@[simp] theorem State.taken_effectiveRevision (rest : List Op) : (s.taken rest).effectiveRevision = s.effectiveRevision := rfl
@[simp] theorem State.taken_pending (rest : List Op) : (s.taken rest).pending = rest := rfl
@[simp] theorem State.taken_result (rest : List Op) : (s.taken rest).result = none := rfl
@[simp] theorem State.taken_draws (rest : List Op) : (s.taken rest).draws = s.draws := rfl
@[simp] theorem State.taken_stream (rest : List Op) : (s.taken rest).stream = s.stream := rfl

end Sys2Proof.Machine
end

