-- ==== Sys2Proof/Laws/Flags.lean ====
section
/-! SUPPORT. What a one-bit write leaves in each bit, and the flags it leaves in a block. -/

namespace Sys2Proof.Machine

/-- A bit write sets its own bit and keeps the others. -/
theorem putBit_getLsbD (v : Byte) {i j : Nat} (b : Bool) (hi : i < 8) (hj : j < 8) :
    (putBit v i b).getLsbD j = if j = i then b else v.getLsbD j := by
  unfold putBit
  cases b <;> by_cases h : j = i <;>
    simp [h, hi, hj] <;> omega

theorem modeBit_lt (f : ModeFlag) : modeBit f < 8 := by cases f <;> decide

theorem macBit_lt (f : MacFlag) : macBit f < 8 := by cases f <;> decide

/-- Two mode flags share no bit. -/
theorem modeBit_inj {f g : ModeFlag} (h : modeBit f = modeBit g) : f = g := by
  revert h
  cases f <;> cases g <;> decide

/-- Each bit of `mode` after one flag is written. -/
@[simp] theorem Block.setMode_getLsbD (k : Block) (f : ModeFlag) (b : Bool) {j : Nat} (hj : j < 8) :
    (k.setMode f b).mode.getLsbD j = if j = modeBit f then b else k.mode.getLsbD j :=
  putBit_getLsbD k.mode b (modeBit_lt f) hj

/-- Each flag after one flag is written. -/
@[simp] theorem Block.setMode_modeFlag (k : Block) (f g : ModeFlag) (b : Bool) :
    (k.setMode f b).modeFlag g = if g = f then b else k.modeFlag g := by
  rw [Block.modeFlag, Block.setMode_getLsbD k f b (modeBit_lt g)]
  by_cases h : g = f
  · simp [h]
  · rw [if_neg fun e => h (modeBit_inj e), if_neg h, Block.modeFlag]

end Sys2Proof.Machine
end

