-- ==== Sys2Proof/Laws/Outcome.lean ====
section
/-! SUPPORT. Everything each way of ending a meaning can do, and what a step is. -/

namespace Sys2Proof.Machine

variable {s t : State}

/-- A block operation always completes, and only the block changes. -/
theorem onBlock_next {f : Block → Block} (h : onBlock f s = .next t) : t = { s with block := f s.block } := by
  simpa [onBlock, eq_comm] using h

/-- A checked block operation that completes changes the block as the operation says. -/
theorem onBlockChecked_next {f : Block → Except Fault Block} (h : onBlockChecked f s = .next t) :
    ∃ k, f s.block = .ok k ∧ t = { s with block := k } := by
  unfold onBlockChecked at h
  split at h
  · rename_i k hk
    exact ⟨k, hk, by simpa [eq_comm] using h⟩
  · simp at h

/-- A checked block operation that faults does so with the operation's own fault. -/
theorem onBlockChecked_fault {f : Block → Except Fault Block} {e : Fault} (h : onBlockChecked f s = .fault e) :
    f s.block = .error e := by
  unfold onBlockChecked at h
  split at h
  · simp at h
  · rename_i e' he
    simp at h
    rw [he, h]

theorem onBlockChecked_ok {f : Block → Except Fault Block} {k : Block} (h : f s.block = .ok k) :
    onBlockChecked f s = .next { s with block := k } := by
  simp [onBlockChecked, h]

theorem onBlockChecked_error {f : Block → Except Fault Block} {e : Fault} (h : f s.block = .error e) :
    onBlockChecked f s = .fault e := by
  simp [onBlockChecked, h]

/-- A checked block operation is never refused. -/
theorem onBlockChecked_not_refused {f : Block → Except Fault Block} {r : Refusal} : onBlockChecked f s ≠ .refused r := by
  unfold onBlockChecked
  split <;> simp

/-- An operation that returns a byte completes and changes the block and the result. -/
theorem returnByte_next {f : Block → Byte × Block} (h : returnByte f s = .next t) :
    t = { s with block := (f s.block).2, result := some (.byte (f s.block).1) } := by
  simpa [returnByte, eq_comm] using h

/-- An operation that returns a Boolean completes and changes the block and the result. -/
theorem returnFlag_next {f : Block → Bool × Block} (h : returnFlag f s = .next t) :
    t = { s with block := (f s.block).2, result := some (.flag (f s.block).1) } := by
  simpa [returnFlag, eq_comm] using h

/-! ### What is due -/

/-- R109: where a frame is ready. -/
@[simp] theorem Block.frameReady_iff (k : Block) : k.frameReady = true ↔ k.FrameReady := by
  unfold Block.frameReady
  rw [Bool.and_eq_true, decide_eq_true_eq, decide_eq_true_eq]
  rfl

@[simp] theorem Block.due_nil (k : Block) : k.due [] = [] := rfl

/-- Every operation but a frame that is not ready is due as it was issued. -/
theorem Block.due_issued {k : Block} {op : Op} {rest : List Op} (h : ∀ f, op = .frame f → k.FrameReady) :
    k.due (op :: rest) = op :: rest := by
  unfold Block.due
  split
  · rename_i f _ he
    cases he
    exact if_pos ((Block.frameReady_iff k).mpr (h f rfl))
  · rfl

/-- R83: a frame that is not ready is due as its three writes. -/
theorem Block.due_frame {k : Block} {f : U9} {rest : List Op} (h : ¬ k.FrameReady) :
    k.due (.frame f :: rest) = frameWrites f ++ rest := by
  unfold Block.due
  exact if_neg fun hr => h ((Block.frameReady_iff k).mp hr)

/-! ### Steps -/

/-- A step takes the first operation that is due. -/
theorem step_due {op : Op} {rest : List Op} (h : s.block.due s.pending = op :: rest) :
    step s = exec (decodeOp s.context op) (s.taken rest) := by
  simp [step, h]

/-- A step takes the first operation of the list, when it is not a frame that is not ready. -/
theorem step_cons {op : Op} {rest : List Op} (h : s.pending = op :: rest) (hr : ∀ f, op = .frame f → s.block.FrameReady := by nofun) :
    step s = exec (decodeOp s.context op) (s.taken rest) :=
  step_due (by rw [h, Block.due_issued hr])

/-- R83, R109: a frame that is not ready is no more than its three writes. -/
theorem step_frame_unready {f : U9} {rest : List Op} (h : s.pending = .frame f :: rest) (hr : ¬ s.block.FrameReady) :
    step s = step { s with pending := frameWrites f ++ rest } := by
  have hd : s.block.due s.pending = frameWrites f ++ rest := by rw [h, Block.due_frame hr]
  have hw : s.block.due (frameWrites f ++ rest) = frameWrites f ++ rest := Block.due_issued fun _ he => by cases he
  rw [step_due hd, step_due (s := { s with pending := frameWrites f ++ rest }) hw]
  rfl

/-- A step with no operation issued changes nothing. -/
theorem step_nil (h : s.pending = []) : step s = .next s := by
  simp [step, h]

/-- The block a placed operation finds is ready for it. -/
theorem Block.madeReadyFor_ready (k : Block) (op : Op) : ∀ f, op = .frame f → (k.madeReadyFor op).FrameReady := by
  rintro f rfl
  exact ⟨by simp [Block.madeReadyFor, Block.writeReg], rfl⟩

/-- Right after reset the block is ready for every operation. -/
@[simp] theorem Block.madeReadyFor_reset (op : Op) : Block.reset.madeReadyFor op = Block.reset := by
  cases op <;> rfl

theorem run_zero : run 0 s = .next s := rfl

/-- A run of one step more starts with a step. -/
theorem run_succ {n : Nat} (h : step s = .next t) : run (n + 1) s = run n t := by
  have h' : Sys2Proof.core.step s = .next t := h
  simp only [run, Host.Core.run, h']; rfl

/-- A run of one step is that step. -/
theorem run_one : run 1 s = step s := by
  cases h : step s with
  | next t => exact run_succ h
  | fault e =>
    have h' : Sys2Proof.core.step s = .fault e := h
    simp only [run, Host.Core.run, h']; rfl
  | refused r =>
    have h' : Sys2Proof.core.step s = .refused r := h
    simp only [run, Host.Core.run, h']; rfl

end Sys2Proof.Machine
end

