-- ==== Sys2Proof/Laws/Frames.lean ====
section
/-! SUPPORT. The two views of a frame agree: the effect that the serial path runs and the instruction that the decoder reads;
and what the shift register holds after a write. -/

namespace Sys2Proof.Machine

/-- The meaning of the instruction a command frame decodes to is the effect the serial path runs. -/
theorem exec_decodeCommand (op : Byte) (s : State) : exec (decodeCommand op) s = onBlock (commandFrame op) s := by
  have hop : op = BitVec.ofNat 8 op.toNat := by simp
  unfold decodeCommand onBlock commandFrame
  generalize op.toNat = n at *
  subst hop
  split <;> first
    | rfl
    | (split <;> first | rfl | contradiction)

/-- The meaning of the instruction a parameter frame decodes to is the effect the serial path runs. -/
theorem exec_decodeParameter (b : Byte) (s : State) :
    exec (decodeParameter s.block.cmd b) s = onBlockChecked (parameterFrame b) s := by
  unfold decodeParameter onBlockChecked parameterFrame
  generalize s.block.cmd.toNat = n
  split <;> first
    | rfl
    | (split <;> rename_i h <;> split at h <;> first | contradiction | (cases h; rfl))

/-- The meaning of the instruction a frame decodes to is what the serial path runs. -/
theorem exec_decodeFrame (f : U9) (s : State) : exec (decodeFrame s.block.cmd f) s = onBlockChecked (runFrame f) s := by
  unfold decodeFrame
  split
  · rename_i h; rw [exec_decodeParameter]; simp [onBlockChecked, runFrame, h]
  · rename_i h; rw [exec_decodeCommand]; simp [onBlockChecked, runFrame, h, onBlock]

/-- R123: the shift register after a write, as a number. -/
theorem shiftIn_toNat (f : U10) (v : Byte) : (shiftIn f v).toNat = (f.toNat * 8 + v.toNat % 8) % 1024 := by
  have h1 : shiftIn f v = (f <<< 3) + (v &&& 0x07#8).zeroExtend 10 := by
    rw [shiftIn, BitVec.add_eq_or_of_and_eq_zero]
    apply BitVec.eq_of_getLsbD_eq; intro i hi
    interval_cases i <;> simp
  have h2 : (v &&& 0x07#8).toNat = v.toNat % 8 := by
    rw [BitVec.toNat_and]; exact Nat.and_two_pow_sub_one_eq_mod v.toNat 3
  rw [h1, BitVec.toNat_add, BitVec.toNat_shiftLeft]
  simp only [BitVec.truncate_eq_setWidth, BitVec.toNat_setWidth, h2, Nat.shiftLeft_eq]
  omega

/-- The top bit of the shift register says that a frame is complete. -/
theorem complete_iff : ∀ x : U10, x.getLsbD 9 = decide (512 ≤ x.toNat) := by decide

/-- R93: the carried frame, as a number. -/
theorem frameOfWrites_toNat (w0 w1 w2 : Byte) :
    (frameOfWrites w0 w1 w2).toNat = w0.toNat % 8 * 64 + w1.toNat % 8 * 8 + w2.toNat % 8 := by
  have hk : ∀ a b c : BitVec 3,
      ((a.zeroExtend 9 <<< 6) ||| (b.zeroExtend 9 <<< 3) ||| c.zeroExtend 9 : BitVec 9).toNat =
        a.toNat * 64 + b.toNat * 8 + c.toNat := by decide
  have ht : ∀ w : Byte, (w &&& 0x07#8).zeroExtend 9 = (w.truncate 3).zeroExtend 9 := by decide
  have hn : ∀ w : Byte, (w.truncate 3).toNat = w.toNat % 8 := by decide
  rw [frameOfWrites, ht, ht, ht, hk, hn, hn, hn]

/-- R92: what the fields of an encoded frame read as. -/
theorem frameByte_parameterFrameBits : ∀ b : Byte, frameByte (parameterFrameBits b) = b := by decide

theorem frameIsParameter_parameterFrameBits : ∀ b : Byte, frameIsParameter (parameterFrameBits b) = true := by decide

theorem frameByte_commandFrameBits : ∀ op : Byte, frameByte (commandFrameBits op) = op := by decide

theorem frameIsParameter_commandFrameBits : ∀ op : Byte, frameIsParameter (commandFrameBits op) = false := by decide

end Sys2Proof.Machine
end

