-- ==== Sys2Proof/Laws/MassStorage.lean ====
section
/-! SUPPORT. Everything a read of the mass-storage responder can do. -/

namespace Sys2Proof.Machine

/-- R283: with a response pending a read pops its next byte. -/
theorem msRead_pending {k : Block} (h : 0 < k.dataLength) : msRead k = msPop k := if_pos h

/-- R282, R285: with none pending and no block it clears the accumulator. -/
theorem msRead_clear {k : Block} (h : k.dataLength = 0) (hs : hasSignature k = false) :
    msRead k = (0, msClearAccumulator k) := by
  unfold msRead
  rw [if_neg (by omega), hs]
  rfl

/-- R282, R284, R285: with none pending and a block it builds the status wrapper and clears the accumulator. -/
theorem msRead_block {k : Block} (h : k.dataLength = 0) (hs : hasSignature k = true) :
    msRead k = (0, msClearAccumulator (msBuildStatus k)) := by
  unfold msRead
  rw [if_neg (by omega), hs]
  rfl

/-- R107: the signature. -/
theorem hasSignature_iff (k : Block) :
    hasSignature k = true ↔ k.cbw[0] = 0x55 ∧ k.cbw[1] = 0x53 ∧ k.cbw[2] = 0x42 ∧ k.cbw[3] = 0x43 := by
  simp [hasSignature, and_assoc]

/-- R284: the bytes of the status wrapper. -/
theorem statusByte_eq (k : Block) (i : Fin 16) :
    statusByte k i = if i.val = 3 then 0x53 else if h : i.val < 8 then k.cbw[i.val] else if i.val < 13 then 0 else k.csw[i] :=
  rfl

end Sys2Proof.Machine
end

