-- ==== Sys2Proof/Laws/Operands.lean ====
section
/-! SUPPORT. The bit operations of the operands agree with the arithmetic of Safety.lean. -/

namespace Sys2Proof.Machine

/-- The parity of the parameter index is its lowest bit. -/
theorem param_bit0 (p : U32) : p.getLsbD 0 = !(p.toNat % 2 == 0) := by
  simp only [BitVec.getLsbD, Nat.testBit_zero]
  rcases Nat.mod_two_eq_zero_or_one p.toNat with h | h <;> simp [h]

/-- R103: the assembly of a 9-bit field, as arithmetic. -/
theorem assemble9_eq (x : U9) (p : U32) (b : Byte) : assemble9 x p b = word9 x (p.toNat % 2 == 0) b := by
  unfold assemble9
  rw [param_bit0]
  cases hp : (p.toNat % 2 == 0)
  · have h1 : ∀ (t : BitVec 1) (b : Byte), (t.zeroExtend 9 <<< 8) ||| b.zeroExtend 9 =
        BitVec.ofNat 9 (t.toNat * 256 + b.toNat) := by decide
    have h2 : ∀ x : U9, x &&& 0x100#9 = ((x >>> 8).truncate 1).zeroExtend 9 <<< 8 ∧
        ((x >>> 8).truncate 1).toNat = x.toNat / 256 := by decide
    simp only [Bool.not_false, if_true, word9, Bool.false_eq_true, if_false]
    rw [(h2 x).1, h1, (h2 x).2]
  · have h1 : ∀ (x : U9) (t : BitVec 1), (t.zeroExtend 9 <<< 8) ||| (x &&& 0x0FF#9) =
        BitVec.ofNat 9 (t.toNat * 256 + x.toNat % 256) := by decide
    have h2 : ∀ b : Byte, (b.truncate 1).toNat = b.toNat % 2 := by decide
    simp only [Bool.not_true, Bool.false_eq_true, if_false, word9, if_true]
    rw [← h2, ← h1]
    apply BitVec.eq_of_getLsbD_eq
    intro i hi
    interval_cases i <;> simp

/-- R103: a full pair of bytes. -/
theorem word9_pair (x : U9) (h l : Byte) : word9 (word9 x true h) false l = pair9 h l := by
  have hl := l.isLt
  simp only [word9, pair9, if_true, Bool.false_eq_true, if_false, BitVec.toNat_ofNat]
  congr 1
  omega

/-- R172: the word index, as arithmetic. -/
theorem wordIndex_eq (p : U32) : wordIndex p = p.toNat / 2 := by
  simp [wordIndex, BitVec.toNat_ushiftRight, Nat.shiftRight_eq_div_pow]

/-- R237: the bit replication, as arithmetic. -/
theorem expand6_eq : ∀ v : Byte, v.toNat < 64 → expand6 v = replicate6 v := by decide

/-- R236: the widened indices, as arithmetic. -/
theorem widen4to5_toNat : ∀ v : Byte, v.toNat < 16 → (widen4to5 v).toNat = v.toNat * 2 + v.toNat / 8 := by decide

theorem widen4to6_toNat : ∀ v : Byte, v.toNat < 16 → (widen4to6 v).toNat = v.toNat * 4 + v.toNat / 4 := by decide

/-- R101: the serial formats by the low three bits. -/
theorem bitsPerPixel_eq : ∀ v : Byte, bitsPerPixel v =
    if v.toNat % 8 = 3 then some 12 else if v.toNat % 8 = 5 then some 16 else if v.toNat % 8 = 6 then some 18 else none := by
  decide

/-- R104 to R106: the channels that the serial bytes carry are in the range of their entry points. -/
theorem channel18_lt : ∀ b : Byte, (channel18 b).toNat < 64 := by decide

theorem red16_lt : ∀ b : Byte, (red16 b).toNat < 32 := by decide

theorem green16_lt : ∀ b : Byte, (greenHigh16 b).toNat < 64 ∧ (greenLow16 b).toNat < 8 := by decide

theorem blue16_lt : ∀ b : Byte, (blue16 b).toNat < 32 := by decide

theorem nibble_lt : ∀ b : Byte, (highNibble b).toNat < 16 ∧ (lowNibble b).toNat < 16 := by decide

/-- R232: green bits 2:0 are put under green bits 5:3. -/
theorem or_green_lt (g l : Byte) (hg : g.toNat < 64) (hl : l.toNat < 8) : (g ||| l).toNat < 64 := by
  rw [BitVec.toNat_or]
  exact Nat.or_lt_two_pow (n := 6) hg (by omega)

end Sys2Proof.Machine
end

