-- ==== Sys2Proof/Laws/PerInstr.lean ====
section
/-! SUPPORT. The per-instruction family of LAWS.json: no row of the opcode table is dead, some context selects each. -/

namespace Sys2Proof.Laws.SomeContextSelects

/-- Some context (route, revision, current command) selects the row. -/
def Statement (i : Instr) : Prop := ∃ x : Context, i.selectedBy x = true

theorem outRegsLow (p : BitVec 4) (v : Byte) : Statement (.outRegsLow p v) := ⟨⟨0, false, 0⟩, rfl⟩
theorem outRegsHigh (p : BitVec 3) (v : Byte) : Statement (.outRegsHigh p v) := ⟨⟨0, false, 0⟩, rfl⟩
theorem inRegsLow (p : BitVec 4) (peek : Bool) : Statement (.inRegsLow p peek) := ⟨⟨0, false, 0⟩, rfl⟩
theorem inRegsHigh (p : BitVec 3) (peek : Bool) : Statement (.inRegsHigh p peek) := ⟨⟨0, false, 0⟩, rfl⟩
theorem outLcd (v : Byte) : Statement (.outLcd v) := ⟨⟨0, false, 0⟩, rfl⟩
theorem outMassStorage (v : Byte) : Statement (.outMassStorage v) := ⟨⟨1, true, 0⟩, rfl⟩
theorem outMassStorageAbsent (v : Byte) : Statement (.outMassStorageAbsent v) := ⟨⟨1, false, 0⟩, rfl⟩
theorem outRouteOther (v : Byte) : Statement (.outRouteOther v) := ⟨⟨2, false, 0⟩, rfl⟩
theorem inLcd (peek : Bool) : Statement (.inLcd peek) := ⟨⟨0, false, 0⟩, rfl⟩
theorem inMassStorage (peek : Bool) : Statement (.inMassStorage peek) := ⟨⟨1, true, 0⟩, rfl⟩
theorem inMassStorageAbsent (peek : Bool) : Statement (.inMassStorageAbsent peek) := ⟨⟨1, false, 0⟩, rfl⟩
theorem inRouteOther (peek : Bool) : Statement (.inRouteOther peek) := ⟨⟨2, false, 0⟩, rfl⟩
theorem portAbove (port : U16) (access : PortAccess) : Statement (.portAbove port access) := ⟨⟨0, false, 0⟩, rfl⟩
theorem nop : Statement .nop := ⟨⟨0, false, 0⟩, rfl⟩
theorem swreset : Statement .swreset := ⟨⟨0, false, 0⟩, rfl⟩
theorem slpin : Statement .slpin := ⟨⟨0, false, 0⟩, rfl⟩
theorem slpout : Statement .slpout := ⟨⟨0, false, 0⟩, rfl⟩
theorem ptlon : Statement .ptlon := ⟨⟨0, false, 0⟩, rfl⟩
theorem noron : Statement .noron := ⟨⟨0, false, 0⟩, rfl⟩
theorem invoff : Statement .invoff := ⟨⟨0, false, 0⟩, rfl⟩
theorem invon : Statement .invon := ⟨⟨0, false, 0⟩, rfl⟩
theorem gamset : Statement .gamset := ⟨⟨0, false, 0⟩, rfl⟩
theorem dispoff : Statement .dispoff := ⟨⟨0, false, 0⟩, rfl⟩
theorem dispon : Statement .dispon := ⟨⟨0, false, 0⟩, rfl⟩
theorem caset : Statement .caset := ⟨⟨0, false, 0⟩, rfl⟩
theorem raset : Statement .raset := ⟨⟨0, false, 0⟩, rfl⟩
theorem ramwr : Statement .ramwr := ⟨⟨0, false, 0⟩, rfl⟩
theorem ptlar : Statement .ptlar := ⟨⟨0, false, 0⟩, rfl⟩
theorem vscrdef : Statement .vscrdef := ⟨⟨0, false, 0⟩, rfl⟩
theorem teoff : Statement .teoff := ⟨⟨0, false, 0⟩, rfl⟩
theorem teon : Statement .teon := ⟨⟨0, false, 0⟩, rfl⟩
theorem madctl : Statement .madctl := ⟨⟨0, false, 0⟩, rfl⟩
theorem vscrsadd : Statement .vscrsadd := ⟨⟨0, false, 0⟩, rfl⟩
theorem idmoff : Statement .idmoff := ⟨⟨0, false, 0⟩, rfl⟩
theorem idmon : Statement .idmon := ⟨⟨0, false, 0⟩, rfl⟩
theorem colmod : Statement .colmod := ⟨⟨0, false, 0⟩, rfl⟩
theorem ramwrc : Statement .ramwrc := ⟨⟨0, false, 0⟩, rfl⟩
theorem ramctrl : Statement .ramctrl := ⟨⟨0, false, 0⟩, rfl⟩
theorem pvgamctrl : Statement .pvgamctrl := ⟨⟨0, false, 0⟩, rfl⟩
theorem nvgamctrl : Statement .nvgamctrl := ⟨⟨0, false, 0⟩, rfl⟩
theorem unassigned (op : Byte) : Statement (.unassigned op) := ⟨⟨0, false, 0⟩, rfl⟩
theorem casetParam (b : Byte) : Statement (.casetParam b) := ⟨⟨0, false, 0x2A⟩, rfl⟩
theorem rasetParam (b : Byte) : Statement (.rasetParam b) := ⟨⟨0, false, 0x2B⟩, rfl⟩
theorem ptlarParam (b : Byte) : Statement (.ptlarParam b) := ⟨⟨0, false, 0x30⟩, rfl⟩
theorem vscrdefParam (b : Byte) : Statement (.vscrdefParam b) := ⟨⟨0, false, 0x33⟩, rfl⟩
theorem ramwrParam (b : Byte) : Statement (.ramwrParam b) := ⟨⟨0, false, 0x2C⟩, rfl⟩
theorem ramwrcParam (b : Byte) : Statement (.ramwrcParam b) := ⟨⟨0, false, 0x3C⟩, rfl⟩
theorem vscrsaddParam (b : Byte) : Statement (.vscrsaddParam b) := ⟨⟨0, false, 0x37⟩, rfl⟩
theorem madctlParam (b : Byte) : Statement (.madctlParam b) := ⟨⟨0, false, 0x36⟩, rfl⟩
theorem colmodParam (b : Byte) : Statement (.colmodParam b) := ⟨⟨0, false, 0x3A⟩, rfl⟩
theorem ramctrlParam (b : Byte) : Statement (.ramctrlParam b) := ⟨⟨0, false, 0xB0⟩, rfl⟩
theorem gamsetParam (b : Byte) : Statement (.gamsetParam b) := ⟨⟨0, false, 0x26⟩, rfl⟩
theorem pvgamctrlParam (b : Byte) : Statement (.pvgamctrlParam b) := ⟨⟨0, false, 0xE0⟩, rfl⟩
theorem nvgamctrlParam (b : Byte) : Statement (.nvgamctrlParam b) := ⟨⟨0, false, 0xE1⟩, rfl⟩
theorem otherParam (b : Byte) : Statement (.otherParam b) := ⟨⟨0, false, 0⟩, rfl⟩
theorem hsync : Statement .hsync := ⟨⟨0, false, 0⟩, rfl⟩
theorem vsync : Statement .vsync := ⟨⟨0, false, 0⟩, rfl⟩
theorem refresh : Statement .refresh := ⟨⟨0, false, 0⟩, rfl⟩
theorem pix18 (r g b : Byte) : Statement (.pix18 r g b) := ⟨⟨0, false, 0⟩, rfl⟩
theorem pix16 (r g b : Byte) : Statement (.pix16 r g b) := ⟨⟨0, false, 0⟩, rfl⟩
theorem pix12 (r g b : Byte) : Statement (.pix12 r g b) := ⟨⟨0, false, 0⟩, rfl⟩
theorem reset : Statement .reset := ⟨⟨0, false, 0⟩, rfl⟩
theorem setdev (t : DeviceType) : Statement (.setdev t) := ⟨⟨0, false, 0⟩, rfl⟩
theorem setrev (r : RequestedRevision) : Statement (.setrev r) := ⟨⟨0, false, 0⟩, rfl⟩
theorem save (ioOk : Bool) : Statement (.save ioOk) := ⟨⟨0, false, 0⟩, rfl⟩
theorem restore (ioOk : Bool) : Statement (.restore ioOk) := ⟨⟨0, false, 0⟩, rfl⟩

end Sys2Proof.Laws.SomeContextSelects
end

