-- ==== Sys2Proof/Laws/Raster.lean ====
section
/-! SUPPORT. Everything the row evaluation can do, with its u16 arithmetic as natural numbers. -/

namespace Sys2Proof.Machine

theorem wide_toNat (x : U9) : (wide x).toNat = x.toNat := by
  simp [wide]
  omega

/-- R213: the bottom of the scroll band. -/
theorem scrollBottom_toNat (k : Block) : (scrollBottom k).toNat = (65536 + 320 - k.bottomArea.toNat) % 65536 := by
  have := k.bottomArea.isLt
  rw [scrollBottom, BitVec.toNat_sub, wide_toNat]
  simp
  omega

/-- R213: the source row before the mirror. -/
theorem scrollRow_toNat (k : Block) (t : U16) (ht : t.toNat ≤ 319) : (scrollRow k t).toNat = scrolledRow k t.toNat := by
  have hbot := scrollBottom_toNat k
  have htop := wide_toNat k.topArea
  have hst := wide_toNat k.scrollStart
  have h1 := k.topArea.isLt
  have h2 := k.scrollStart.isLt
  have h3 := k.bottomArea.isLt
  have hm : k.modeFlag .scroll = k.mode.getLsbD 5 := rfl
  have hand : ∀ x : U16, (x &&& 0x1FF#16).toNat = x.toNat % 512 := fun x => by
    rw [BitVec.toNat_and]; exact Nat.and_two_pow_sub_one_eq_mod x.toNat 9
  unfold scrollRow scrolledRow
  simp only [hm, Bool.and_eq_true, decide_eq_true_eq, BitVec.le_def, BitVec.lt_def, hbot, htop, and_assoc]
  split
  · rename_i hc
    have hmoved : (t + wide k.scrollStart - wide k.topArea).toNat = t.toNat + k.scrollStart.toNat - k.topArea.toNat := by
      rw [BitVec.toNat_sub, BitVec.toNat_add, htop, hst]
      simp
      omega
    rw [hand, hmoved]
    split
    · rw [BitVec.toNat_sub, BitVec.toNat_sub, hmoved, hbot, htop]
      simp
      omega
    · rw [hmoved]
  · rfl

/-- R214: the mirror. -/
theorem mirrorRow_toNat (k : Block) (x : U16) : (mirrorRow k x).toNat = mirrored k x.toNat := by
  have hm : k.macFlag .vro = k.mac.getLsbD 4 := rfl
  unfold mirrorRow mirrored
  rw [hm]
  split
  · rw [BitVec.toNat_sub]
    have := x.isLt
    simp
    omega
  · rfl

/-- R212: the blanking test. -/
theorem blank_iff (k : Block) (t : U16) :
    (k.modeFlag .partialOn && outsidePartial k t) = true ↔ blankedRow k t.toNat := by
  have hm : k.modeFlag .partialOn = k.mode.getLsbD 4 := rfl
  unfold blankedRow outsidePartial
  rw [Bool.and_eq_true, hm]
  refine and_congr Iff.rfl ?_
  simp only [BitVec.lt_def]
  split
  · simp [wide_toNat]; omega
  · simp [wide_toNat]

/-- R210 to R215: the evaluation of a row of the display. -/
theorem evalRow_visible (k : Block) (t : U16) (ht : t.toNat ≤ 319) :
    ∃ mode', evalRow t k = (true, rowEvaluated k t.toNat mode') ∧ RowMode k t.toNat mode' := by
  refine ⟨((k.setMode .ignore false).setMode .blank (k.modeFlag .partialOn && outsidePartial k t)).mode, ?_, ?_, ?_, ?_⟩
  · unfold evalRow
    rw [if_neg (show ¬ Config.lastRow < t.toNat by simp only [Config.lastRow]; omega)]
    have e1 : (t : U16) = BitVec.ofNat 16 t.toNat := by simp
    have e2 : mirrorRow k t = BitVec.ofNat 16 (mirrored k t.toNat) := by
      apply BitVec.eq_of_toNat_eq
      rw [mirrorRow_toNat, BitVec.toNat_ofNat, Nat.mod_eq_of_lt]
      rw [← mirrorRow_toNat]; exact (mirrorRow k t).isLt
    have e3 : mirrorRow k (scrollRow k t) = BitVec.ofNat 16 (mirrored k (scrolledRow k t.toNat)) := by
      apply BitVec.eq_of_toNat_eq
      rw [mirrorRow_toNat, scrollRow_toNat k t ht, BitVec.toNat_ofNat, Nat.mod_eq_of_lt]
      rw [← scrollRow_toNat k t ht, ← mirrorRow_toNat]; exact (mirrorRow k _).isLt
    unfold rowEvaluated
    rw [← e2, ← e3, ← e1]
    rfl
  · rw [Block.setMode_getLsbD _ _ _ (by omega)]
    exact blank_iff k t
  · rw [Block.setMode_getLsbD _ _ _ (by omega), Block.setMode_getLsbD _ _ _ (by omega)]
    rfl
  · intro j hj
    rw [Block.setMode_getLsbD _ _ _ (by omega), Block.setMode_getLsbD _ _ _ (by omega)]
    rw [if_neg (show ¬ j = modeBit .blank by show ¬ j = 6; omega), if_neg (show ¬ j = modeBit .ignore by show ¬ j = 7; omega)]

/-- R211: a row past the last. -/
theorem evalRow_past (k : Block) (t : U16) (ht : 319 < t.toNat) : evalRow t k = (false, k.setMode .ignore true) := by
  unfold evalRow
  rw [if_pos (show Config.lastRow < t.toNat from ht)]

end Sys2Proof.Machine
end

