-- ==== Sys2Proof/Laws/Refresh.lean ====
section
/-! SUPPORT. Everything a refresh of an active line can do. -/

namespace Sys2Proof.Machine

/-- The column after a step, as a number. -/
theorem stepColumn_toNat (col : U16) (d : ColDir) :
    (stepColumn col d).toNat = (match d with
      | .backward => (col.toNat + 65535) % 65536
      | .still => col.toNat
      | .forward => (col.toNat + 1) % 65536) := by
  cases d
  · rw [stepColumn, BitVec.toNat_sub]
    simp
    omega
  · rfl
  · rw [stepColumn, BitVec.toNat_add]
    simp

/-- R244: the output write changes `display` alone. -/
theorem writePixel_shape (c : Colour) (k : Block) : writePixel c k = { k with display := (writePixel c k).display } := by
  unfold writePixel
  split <;> rfl

/-- R244: what the output write leaves in the cell and elsewhere. -/
theorem writePixel_inside (c : Colour) {k : Block} (hc : k.col.toNat < 240) (hr : k.dstRow.toNat < 320) :
    writePixel c k = k.putDisplay k.col.toNat k.dstRow.toNat c.1 c.2.1 c.2.2 := by
  unfold writePixel
  rw [if_pos]
  simp [onDisplay, hc, hr]

/-- Outside the output buffer nothing is written (log 10). -/
theorem writePixel_outside (c : Colour) {k : Block} (h : 240 ≤ k.col.toNat ∨ 320 ≤ k.dstRow.toNat) : writePixel c k = k := by
  unfold writePixel
  rw [if_neg]
  simp only [onDisplay, Bool.and_eq_true, decide_eq_true_eq, Config.numCols, Config.numRows]
  omega

/-- R240: a refresh of an active line: the output cell, the column, and IGNORE at the end of the line; nothing else. -/
theorem refreshActive_shape (n : Nat) (k : Block) :
    refreshActive n k =
      (decide ((stepColumn k.col k.colDir).toNat ≤ 239),
        { k with
          display := (writePixel (pixelColour k n) k).display
          col := stepColumn k.col k.colDir
          mode := if (stepColumn k.col k.colDir).toNat ≤ 239 then k.mode else k.mode ||| 0x80#8 }) := by
  unfold refreshActive
  rw [writePixel_shape]
  generalize (writePixel (pixelColour k n) k).display = d
  unfold advanceColumn
  by_cases h : (stepColumn k.col k.colDir).toNat ≤ 239
  · rw [if_neg (by simp only [Config.lastCol]; omega)]
    simp [h]
  · rw [if_pos (by simp only [Config.lastCol]; omega)]
    simp [h, Block.setMode, putBit, modeBit]

end Sys2Proof.Machine
end

