-- ==== Sys2Proof/Tests/Slice0.lean ====
section
/-! SUPPORT. The model's own tests: encodings written out from 30_encoding.md, one step at a time with the expected values of
spec/95_test_vectors.md or of the rule named, and for each statement with hypotheses a state and operands that meet them. -/

namespace Sys2Proof.Tests

open Sys2Proof.Machine

/-! ## Helpers -/

/-- The state after reset with a change to its block. -/
def given (f : Block → Block) : State := { State.reset with block := f Block.reset }

/-- The next state of an instruction, if there is one. -/
def after (i : Instr) (s : State) : Option State :=
  match exec i s with
  | .next t => some t
  | _ => none

/-- The fault of an instruction, if there is one. -/
def faultOf (i : Instr) (s : State) : Option Fault :=
  match exec i s with
  | .fault e => some e
  | _ => none

/-- The refusal of an instruction, if there is one. -/
def refusalOf (i : Instr) (s : State) : Option Refusal :=
  match exec i s with
  | .refused r => some r
  | _ => none

/-- A field of the block after an instruction. -/
def see {α : Type} (i : Instr) (s : State) (field : Block → α) : Option α := (after i s).map fun t => field t.block

/-- The value an instruction returns. -/
def returned (i : Instr) (s : State) : Option Result := (after i s).bind fun t => t.result

/-- The four lanes of a GRAM cell. -/
def gramCell (row col : Nat) (k : Block) : List Byte := (List.range 4).map (k.frameLane row col)

/-- The four lanes of an output cell. -/
def shownCell (col row : Nat) (k : Block) : List Byte := (List.range 4).map (k.displayLane col row)

/-! ## Well-formedness: an ill-formed term for each check, and the terms at the edge -/

theorem test_illFormed_assigned_as_unassigned : (Instr.unassigned 0x10).wellFormed = false := by decide
theorem test_illFormed_portAbove_dataPort : (Instr.portAbove 0x18 (.write 0)).wellFormed = false := by decide
theorem test_wellFormed_edges :
    (Instr.portAbove 0x19 (.read true)).wellFormed = true ∧ (Instr.portAbove 0xFFFF (.write 1)).wellFormed = true ∧
    (Instr.unassigned 0xFF).wellFormed = true ∧ (Instr.unassigned 0x02).wellFormed = true := by decide

/-! ## Decoding: one word for each row, written bit by bit from R71, R91, R92, R95, R99 -/

/-- R71, R90: the register rows and the offsets above the data port. -/
theorem test_decode_registers :
    decodeOp ⟨0, false, 0⟩ (.portWrite 0b0000000000001111 0x3C) = .outRegsLow 15 0x3C ∧
    decodeOp ⟨0, false, 0⟩ (.portWrite 0b0000000000010010 0x01) = .outRegsHigh 2 0x01 ∧
    decodeOp ⟨0, false, 0⟩ (.portRead 0b0000000000000101 true) = .inRegsLow 5 true ∧
    decodeOp ⟨0, false, 0⟩ (.portRead 0b0000000000010111 false) = .inRegsHigh 7 false ∧
    decodeOp ⟨0, false, 0⟩ (.portWrite 0b0000000000011001 9) = .portAbove 0x19 (.write 9) ∧
    decodeOp ⟨0, false, 0⟩ (.portRead 0b1000000000000000 true) = .portAbove 0x8000 (.read true) := by decide

/-- R91: the data port by route and revision. -/
theorem test_decode_dataPort :
    decodeOp ⟨0, true, 0⟩ (.portWrite 0b0000000000011000 5) = .outLcd 5 ∧
    decodeOp ⟨1, true, 0⟩ (.portWrite 0b0000000000011000 5) = .outMassStorage 5 ∧
    decodeOp ⟨1, false, 0⟩ (.portWrite 0b0000000000011000 5) = .outMassStorageAbsent 5 ∧
    decodeOp ⟨255, true, 0⟩ (.portWrite 0b0000000000011000 5) = .outRouteOther 5 ∧
    decodeOp ⟨0, true, 0⟩ (.portRead 0b0000000000011000 true) = .inLcd true ∧
    decodeOp ⟨1, true, 0⟩ (.portRead 0b0000000000011000 true) = .inMassStorage true ∧
    decodeOp ⟨1, false, 0⟩ (.portRead 0b0000000000011000 false) = .inMassStorageAbsent false ∧
    decodeOp ⟨2, false, 0⟩ (.portRead 0b0000000000011000 false) = .inRouteOther false := by decide

/-- R92, R95: the command frames, bit 8 clear. -/
theorem test_decode_commands :
    [0b000000000, 0b000000001, 0b000010000, 0b000010001, 0b000010010, 0b000010011, 0b000100000, 0b000100001, 0b000100110,
      0b000101000, 0b000101001, 0b000101010, 0b000101011, 0b000101100].map (decodeFrame 0x77) =
    [.nop, .swreset, .slpin, .slpout, .ptlon, .noron, .invoff, .invon, .gamset, .dispoff, .dispon, .caset, .raset, .ramwr] ∧
    [0b000110000, 0b000110011, 0b000110100, 0b000110101, 0b000110110, 0b000110111, 0b000111000, 0b000111001, 0b000111010,
      0b000111100, 0b010110000, 0b011100000, 0b011100001, 0b001110111].map (decodeFrame 0x77) =
    [.ptlar, .vscrdef, .teoff, .teon, .madctl, .vscrsadd, .idmoff, .idmon, .colmod, .ramwrc, .ramctrl, .pvgamctrl,
      .nvgamctrl, .unassigned 0x77] := by decide

/-- R92, R99: one parameter frame, bit 8 set, under each command with a parameter rule and under one without. -/
theorem test_decode_parameters :
    [0x2A, 0x2B, 0x30, 0x33, 0x2C, 0x3C, 0x37, 0x36, 0x3A, 0xB0, 0x26, 0xE0, 0xE1, 0x29].map
      (fun cmd => decodeFrame cmd 0b110100101) =
    [.casetParam 0xA5, .rasetParam 0xA5, .ptlarParam 0xA5, .vscrdefParam 0xA5, .ramwrParam 0xA5, .ramwrcParam 0xA5,
      .vscrsaddParam 0xA5, .madctlParam 0xA5, .colmodParam 0xA5, .ramctrlParam 0xA5, .gamsetParam 0xA5, .pvgamctrlParam 0xA5,
      .nvgamctrlParam 0xA5, .otherParam 0xA5] := by decide

/-- R49 to R51, R300 to R305, R340: the calls, which have no bits. -/
theorem test_decode_calls :
    [.hsync, .vsync, .refreshPixel, .pixel18 1 2 3, .pixel16 1 2 3, .pixel12 1 2 3, .powerOnReset, .setDeviceType .variantB,
      .setRevision .m, .save true, .restore false].map (decodeOp ⟨0, false, 0⟩) =
    [.hsync, .vsync, .refresh, .pix18 1 2 3, .pix16 1 2 3, .pix12 1 2 3, .reset, .setdev .variantB, .setrev .m, .save true,
      .restore false] := by decide

/-- R93, its two examples, and a vector of 95_test_vectors.md (V40 row 6: bits 7:3 are ignored). -/
theorem test_frame_of_three_writes :
    frameOfWrites 0 5 2 = 0x02A ∧ frameOfWrites 7 5 7 = 0x1EF ∧ frameOfWrites 4 0x3F 0xFA = 0x13A := by decide

/-- Table words: a serial frame, an offset, an offset with a value, and the refused ones (log 3). -/
theorem test_tableWords :
    decodeTableWord 16 0x02C = some .ramwr ∧ decodeTableWord 16 0x1EF = some (.otherParam 0xEF) ∧
    decodeTableWord 24 0xA50005 = some (.outRegsLow 5 0xA5) ∧ decodeTableWord 24 0x070018 = some (.outLcd 7) ∧
    decodeTable 16 0x10000 = .error .bitsBeyondLength ∧ decodeTable 32 0 = .error .noSuchLength := by
  refine ⟨by decide, by decide, by decide, by decide, by rfl, by rfl⟩

/-- The placed word is the next operation. -/
theorem test_withFetchWord : (State.reset.withFetchWord 16 0x02C).pending = [.frame 0x02C] := by decide

/-! ## Memory -/

/-- The canonical form: reset memory has it, a write keeps it, and writing the unlisted byte back removes the entry. -/
theorem test_memory_canonical :
    State.reset.block.frame.wf ∧ State.reset.block.display.wf ∧ (Memory.write (Memory.write [] 9 1) 4 2).wf ∧
    Memory.write (Memory.write [] 9 1) 9 0 = [] ∧ Memory.read (Memory.write (Memory.write [] 9 1) 4 2) 9 = 1 := by decide

/-! ## Ports (V40) -/

theorem test_outRegsLow_stores : see (.outRegsLow 5 0xA5) State.reset (fun k => (k.regs[5], k.regs[4], k.regs[6])) =
    some (0xA5, 0, 0) := by decide
theorem test_outRegsHigh_stores : see (.outRegsHigh 2 1) State.reset (fun k => (k.regs[0x12], k.regs[2])) = some (1, 0) := by
  decide
theorem test_inRegsLow_reads : returned (.inRegsLow 5 true) (given fun k => k.writeReg 5 0xA5) = some (.byte 0xA5) := by decide
theorem test_inRegsHigh_reads : returned (.inRegsHigh 7 false) (given fun k => k.writeReg 23 0x5A) = some (.byte 0x5A) := by
  decide
theorem test_outLcd_shifts : see (.outLcd 0xF8) State.reset (fun k => k.fifo) = some 0x008 := by decide
theorem test_outLcd_completes : see (.outLcd 2) (given fun k => { k with fifo := 0x045, param := 9 })
    (fun k => (k.cmd, k.param, k.fifo)) = some (0x2A, 0, 1) := by decide
theorem test_inLcd_zero : returned (.inLcd false) (given fun k => { k with fifo := 0x045 }) = some (.byte 0) := by decide
theorem test_outMassStorageAbsent_inert : see (.outMassStorageAbsent 0x55) State.reset (fun k => (k.cbw[0], k.fifo)) =
    some (0, 1) := by decide
theorem test_inMassStorageAbsent_zero : returned (.inMassStorageAbsent true) State.reset = some (.byte 0) := by decide
theorem test_outRouteOther_refused : refusalOf (.outRouteOther 0) State.reset = some .route := by decide
theorem test_inRouteOther_refused : refusalOf (.inRouteOther false) State.reset = some .route := by decide
theorem test_portAbove_refused : refusalOf (.portAbove 0x19 (.read false)) State.reset = some .port := by decide

/-! ## Command frames (V41) -/

theorem test_nop : see .nop (given fun k => { k with cmd := 0x2C, param := 5 }) (fun k => (k.cmd, k.param, k.mode)) =
    some (0, 0, 0x03) := by decide
theorem test_swreset : see .swreset (given fun k => { k with mode := 0x9C, mac := 0x20, tear := true, gamma := 8 })
    (fun k => (k.mode, k.colEnd, k.rowEnd, k.mac, k.gamma, k.tear)) = some (0x03, 319, 239, 0x20, 1, false) := by decide
theorem test_swreset_keeps_cursor : see .swreset (given fun k => { k with rowReg := 7, colReg := 9, ifBpp := 6 })
    (fun k => (k.colEnd, k.rowEnd, k.rowReg, k.colReg, k.ifBpp)) = some (239, 319, 7, 9, 6) := by decide
theorem test_slpin : see .slpin (given fun k => { k with mode := 0x02 }) (fun k => k.mode) = some 0x03 := by decide
theorem test_slpout : see .slpout State.reset (fun k => (k.mode, k.cmd)) = some (0x02, 0x11) := by decide
theorem test_ptlon_keeps_scroll : see .ptlon (given fun k => { k with mode := 0x30, scrollStart := 9 })
    (fun k => (k.mode, k.scrollStart)) = some (0x30, 0) := by decide
theorem test_ptlon_sets : see .ptlon (given fun k => { k with mode := 0x0C }) (fun k => k.mode) = some 0x1C := by decide
theorem test_noron : see .noron (given fun k => { k with mode := 0x30, scrollStart := 9, topArea := 4 })
    (fun k => (k.mode, k.scrollStart, k.topArea)) = some (0x00, 0, 4) := by decide
theorem test_invoff : see .invoff (given fun k => { k with mode := 0x0C }) (fun k => k.mode) = some 0x08 := by decide
theorem test_invon : see .invon (given fun k => { k with mode := 0x00 }) (fun k => k.mode) = some 0x04 := by decide
theorem test_gamset : see .gamset State.reset (fun k => (k.cmd, k.gamma)) = some (0x26, 1) := by decide
theorem test_dispoff : see .dispoff (given fun k => { k with mode := 0x00 }) (fun k => k.mode) = some 0x02 := by decide
theorem test_dispon : see .dispon State.reset (fun k => k.mode) = some 0x01 := by decide
theorem test_caset : see .caset (given fun k => { k with colStart := 7, param := 3 }) (fun k => (k.cmd, k.param, k.colStart)) =
    some (0x2A, 0, 7) := by decide
theorem test_raset : see .raset State.reset (fun k => (k.cmd, k.rowEnd)) = some (0x2B, 319) := by decide
theorem test_ramwr_resets_cursor : see .ramwr
    (given fun k => { k with colStart := 2, rowStart := 3, rowReg := 0x1FF, colReg := 0xFF, exhausted := true })
    (fun k => (k.rowReg, k.colReg, k.exhausted)) = some (3, 2, false) := by decide
theorem test_ramwr_exchanged : see .ramwr (given fun k => { k with mac := 0x20, colStart := 5, rowStart := 7 })
    (fun k => (k.rowReg, k.colReg)) = some (5, 7) := by decide
theorem test_ptlar : see .ptlar State.reset (fun k => (k.cmd, k.partialEnd)) = some (0x30, 319) := by decide
theorem test_vscrdef : see .vscrdef State.reset (fun k => (k.cmd, k.scrollArea)) = some (0x33, 320) := by decide
theorem test_teoff : see .teoff (given fun k => { k with tear := true }) (fun k => k.tear) = some false := by decide
theorem test_teon : see .teon State.reset (fun k => k.tear) = some true := by decide
theorem test_madctl : see .madctl (given fun k => { k with mac := 0x20 }) (fun k => (k.cmd, k.mac)) = some (0x36, 0x20) := by
  decide
theorem test_vscrsadd_waits : see .vscrsadd State.reset (fun k => (k.cmd, k.mode)) = some (0x37, 0x03) := by decide
theorem test_idmoff : see .idmoff (given fun k => { k with mode := 0x0C }) (fun k => k.mode) = some 0x04 := by decide
theorem test_idmon : see .idmon (given fun k => { k with mode := 0x04 }) (fun k => k.mode) = some 0x0C := by decide
theorem test_colmod : see .colmod State.reset (fun k => (k.cmd, k.ifBpp)) = some (0x3A, 0) := by decide
theorem test_ramwrc_keeps_cursor : see .ramwrc (given fun k => { k with rowReg := 7, colReg := 9, param := 2 })
    (fun k => (k.rowReg, k.colReg, k.param)) = some (7, 9, 0) := by decide
theorem test_ramctrl : see .ramctrl State.reset (fun k => (k.cmd, k.ifCtl)) = some (0xB0, 0) := by decide
theorem test_pvgamctrl : see .pvgamctrl State.reset (fun k => k.cmd) = some 0xE0 := by decide
theorem test_nvgamctrl : see .nvgamctrl State.reset (fun k => k.cmd) = some 0xE1 := by decide
theorem test_unassigned : see (.unassigned 0x77) State.reset (fun k => (k.cmd, k.mode)) = some (0x77, 0x03) := by decide

/-! ## Parameter frames (V42) -/

theorem test_casetParam_high : see (.casetParam 0x01) (given fun k => { k with cmd := 0x2A }) (fun k => (k.colStart, k.param)) =
    some (0x100, 1) := by decide
theorem test_casetParam_low_of_end : see (.casetParam 0xEF) (given fun k => { k with cmd := 0x2A, param := 3, colEnd := 0x1EF })
    (fun k => (k.colEnd, k.colStart)) = some (0x1EF, 0) := by decide
theorem test_rasetParam_end : see (.rasetParam 0x3F) (given fun k => { k with cmd := 0x2B, param := 3, rowEnd := 0x100 })
    (fun k => (k.rowEnd, k.rowStart)) = some (319, 0) := by decide
theorem test_ptlarParam_start : see (.ptlarParam 0x2C) (given fun k => { k with cmd := 0x30, param := 1, partialStart := 0x100 })
    (fun k => (k.partialStart, k.mode)) = some (300, 0x03) := by decide
theorem test_vscrdefParam_bottom : see (.vscrdefParam 10) (given fun k => { k with cmd := 0x33, param := 5 })
    (fun k => (k.bottomArea, k.topArea, k.scrollArea)) = some (10, 0, 320) := by decide
theorem test_vscrsaddParam_sets_scroll : see (.vscrsaddParam 0x00) (given fun k => { k with cmd := 0x37 })
    (fun k => (k.mode, k.scrollStart)) = some (0x23, 0) := by decide
theorem test_vscrsaddParam_ignored : see (.vscrsaddParam 0xFF) (given fun k => { k with cmd := 0x37, param := 2 })
    (fun k => (k.mode, k.scrollStart, k.param)) = some (0x03, 0, 3) := by decide
theorem test_ramwrParam_completes : see (.ramwrParam 0x03)
    (given fun k => { k with cmd := 0x2C, ifBpp := 6, param := 2, ifRed := 63, ifGreen := 32 })
    (fun k => (gramCell 0 0 k, k.rowReg, k.colReg, k.param)) = some ([0xFF, 0x82, 0x00, 0x00], 0, 1, 3) := by decide
theorem test_ramwrParam_twelve : see (.ramwrParam 0x34)
    (given fun k => { k with cmd := 0x2C, ifBpp := 3, param := 1, ifRed := 1, ifGreen := 2 })
    (fun k => (gramCell 0 0 k, k.ifRed, k.ifBlue)) = some ([0x10, 0x20, 0x31, 0x00], 4, 3) := by decide
theorem test_ramwrcParam_sixteen : see (.ramwrcParam 0x1F)
    (given fun k => { k with cmd := 0x3C, ifBpp := 5, param := 1, ifRed := 31 })
    (fun k => (gramCell 0 0 k, k.ifBlue)) = some ([0xFF, 0x00, 0xFF, 0x00], 31) := by decide
theorem test_ramwrcParam_parked : see (.ramwrcParam 0xFC)
    (given fun k => { k with cmd := 0x3C, ifBpp := 6, param := 2, rowReg := 0x1FF, colReg := 0xFF, exhausted := true })
    (fun k => (k.frame, k.rowReg, k.exhausted, k.param)) = some ([], 0x1FF, true, 3) := by decide
theorem test_madctlParam : see (.madctlParam 0x20) (given fun k => { k with cmd := 0x36 }) (fun k => (k.mac, k.param)) =
    some (0x20, 1) := by decide
theorem test_madctlParam_ignored : see (.madctlParam 0x20) (given fun k => { k with cmd := 0x36, param := 1 })
    (fun k => (k.mac, k.param)) = some (0x00, 2) := by decide
theorem test_colmodParam : see (.colmodParam 0x55) (given fun k => { k with cmd := 0x3A }) (fun k => k.ifBpp) = some 0x55 := by
  decide
theorem test_ramctrlParam : see (.ramctrlParam 0x10) (given fun k => { k with cmd := 0xB0 }) (fun k => k.ifCtl) = some 0x10 := by
  decide
theorem test_gamsetParam : see (.gamsetParam 0x08) (given fun k => { k with cmd := 0x26 }) (fun k => k.gamma) = some 0x08 := by
  decide
theorem test_pvgamctrlParam : see (.pvgamctrlParam 0xAA) (given fun k => { k with cmd := 0xE0 })
    (fun k => (k.gammaTable0[0], k.gammaTable1[0])) = some (0xAA, 0) := by decide
theorem test_nvgamctrlParam_last : see (.nvgamctrlParam 16) (given fun k => { k with cmd := 0xE1, param := 15 })
    (fun k => (k.gammaTable1[15], k.gammaTable0[15])) = some (16, 0) := by decide
theorem test_nvgamctrlParam_ignored : see (.nvgamctrlParam 17) (given fun k => { k with cmd := 0xE1, param := 16 })
    (fun k => (k.gammaTable1, k.param)) = some (Vector.replicate 16 0, 17) := by decide
theorem test_otherParam : see (.otherParam 0x55) (given fun k => { k with cmd := 0x29, param := 0xFFFFFFFF })
    (fun k => (k.param, k.mode)) = some (0, 0x03) := by decide

/-! ## The raster scan (V43, E2) -/

theorem test_hsync_scroll : see .hsync
    (given fun k => { k with mode := 0x20, row := 219, topArea := 10, bottomArea := 10, scrollStart := 100 })
    (fun k => (k.row, k.srcRow, k.dstRow, k.col, k.colDir)) = some (220, 10, 220, 0, .forward) := by decide
theorem test_hsync_last : see .hsync (given fun k => { k with row := 319 }) (fun k => (k.row, k.mode)) = some (319, 0x83) := by
  decide
theorem test_evalRow_mirror_past_gram : ((evalRow 240
    { Block.reset with mode := 0x20, mac := 0x10, scrollStart := 400 }).2).srcRow = 0xFFFF := by decide
theorem test_evalRow_wrapped_bottom : ((evalRow 100
    { Block.reset with mode := 0x20, bottomArea := 330, scrollStart := 5 }).2).srcRow = 105 := by decide
theorem test_evalRow_partial_wraps : [19, 20, 299, 300].map (fun t => (evalRow t
    { Block.reset with mode := 0x10, partialStart := 300, partialEnd := 19 }).2.modeFlag .blank) = [false, true, true, false] := by
  decide
theorem test_evalRow_horizontal_mirror : ((evalRow 7 { Block.reset with mac := 0x04 }).2).col = 239 := by decide
theorem test_vsync_configuration : see .vsync
    (given fun k => { k with ifCtl := 0x10, colStart := 3, rowStart := 4, rowReg := 7, colReg := 9 })
    (fun k => (k.rowReg, k.colReg, k.row)) = some (4, 3, 0) := by decide
theorem test_vsync_pixel_data : see .vsync (given fun k => { k with mode := 0x83, rowReg := 7, colReg := 9 })
    (fun k => (k.rowReg, k.colReg, k.mode)) = some (7, 9, 0x03) := by decide

/-! ## Pixels and the cursor (V44, V45) -/

theorem test_pix18 : see (.pix18 32 1 0) State.reset (gramCell 0 0) = some [0x82, 0x04, 0x00, 0x00] := by decide
theorem test_pix18_fault : faultOf (.pix18 0 64 0) State.reset = some .pixel18Range := by decide
theorem test_pix16 : see (.pix16 16 32 1) State.reset (gramCell 0 0) = some [0x84, 0x82, 0x08, 0x00] := by decide
theorem test_pix16_fault : faultOf (.pix16 0 0 32) State.reset = some .pixel16Range := by decide
theorem test_pix12 : see (.pix12 15 8 1) State.reset (gramCell 0 0) = some [0xFF, 0x8A, 0x10, 0x00] := by decide
theorem test_pix12_fault : faultOf (.pix12 0 16 0) State.reset = some .pixel12Range := by decide
/-- The window of V45 vector 3, reversed, at the end of its first line. -/
def reversed : Block := { Block.reset with colStart := 3, colEnd := 1, rowEnd := 0, mac := 0x40, colReg := 1 }
theorem test_cursor_line_end : ((cursorAdvance reversed).rowReg, (cursorAdvance reversed).colReg) = (1, 3) := by decide
theorem test_cursor_reversed_wraps : (cursorAdvance { Block.reset with mac := 0x40 }).colReg = 255 := by decide
/-- The window of V45 vector 2, with the axes exchanged. -/
def exchanged : Block :=
  { Block.reset with mac := 0x20, colStart := 5, colEnd := 6, rowStart := 7, rowEnd := 8, rowReg := 6, colReg := 7 }
theorem test_cursor_exchanged : ((cursorAdvance exchanged).rowReg, (cursorAdvance exchanged).colReg) = (5, 8) := by decide
theorem test_cursor_parks : (cursorAdvance { Block.reset with colReg := 239, rowReg := 319 }).exhausted = true := by decide
theorem test_cursor_masks_column : (cursorAdvance { Block.reset with colStart := 300, colEnd := 301, colReg := 300 }).colReg = 45 := by
  decide

/-! ## Refresh (V44 rows 15 to 26) -/

/-- A block with the triplet of V44 in its first GRAM cell, awake and scanning row 0. -/
def scanning (mode mac : Byte) : State :=
  given fun k => { k with mode := mode, mac := mac, colDir := .forward, frame := [(0, 0x10), (1, 0x90), (2, 0xF0)] }

theorem test_refresh_gram_colours :
    ([(0x00, 0x00), (0x00, 0x08), (0x04, 0x00), (0x08, 0x00), (0x0C, 0x08), (0x03, 0x00), (0x40, 0x00)] :
      List (Byte × Byte)).map (fun p => see .refresh (scanning p.1 p.2) (shownCell 0 0)) =
    [some [0x10, 0x90, 0xF0, 0xFF], some [0xF0, 0x90, 0x10, 0xFF], some [0xEF, 0x6F, 0x0F, 0xFF], some [0x00, 0xFF, 0xFF, 0xFF],
      some [0x00, 0x00, 0xFF, 0xFF], some [0xFF, 0xFF, 0xFF, 0xFF], some [0xFF, 0xFF, 0xFF, 0xFF]] := by decide
theorem test_refresh_line_end : see .refresh (given fun k => { k with col := 239, colDir := .forward })
    (fun k => (k.col, k.mode)) = some (240, 0x83) := by decide

/-! ## The responder (V46) -/

theorem test_outMassStorage_wraps : see (.outMassStorage 32) (given fun k => { k with cbwIndex := 31 })
    (fun k => (k.cbw[31], k.cbwIndex)) = some (32, 0) := by decide

/-- An accumulator that holds 'U' 'S' 'B' 'C', 1, 2, 3, 4 and, at offset 15, the given operation code. -/
def accumulated (code : Byte) : Vector Byte 32 :=
  ((((((((Vector.replicate 32 0).set 0 0x55).set 1 0x53).set 2 0x42).set 3 0x43).set 4 1).set 5 2).set 7 4).set 15 code

theorem test_inMassStorage_inquiry : see (.inMassStorage false) (given fun k => { k with cbw := accumulated 0x12, cbwIndex := 31 })
    (fun k => (k.csw.toList.take 8, k.dataOffset, k.dataLength, k.cbw[0], k.cbwIndex)) =
    some ([0x55, 0x53, 0x42, 0x53, 1, 2, 0, 4], 0, 54, 0, 0) := by decide
theorem test_inMassStorage_peek_pops : see (.inMassStorage true) (given fun k => { k with dataLength := 54 })
    (fun k => (k.dataOffset, k.dataLength)) = some (1, 53) := by decide

/-! ## Reset, revision, snapshot (V47, V70) -/

theorem test_reset_table : see .reset (given fun k => { k with mode := 0, cmd := 9, frame := [(0, 1)] })
    (fun k => (k.mode, k.fifo, k.frame, k.lut[31], k.lut[32 + 63])) = some (0x03, 1, [], 0xFF, 0xFF) := by decide
theorem test_reset_resolves : (after .reset { State.reset with requestedRevision := .m }).map (fun t => t.effectiveRevision) =
    some .m := by decide
theorem test_setdev : (after (.setdev .variantB) State.reset).map (fun t => t.deviceType) = some .variantB := by decide
theorem test_setrev_waits : (after (.setrev .m) State.reset).map (fun t => (t.requestedRevision, t.effectiveRevision)) =
    some (.m, .a) := by decide
theorem test_save : (after (.save true) State.reset).bind (fun t => t.stream.map fun k => (k.fifo, k.mode, k.gamma)) =
    some (1, 0x03, 1) := by decide
theorem test_restore : see (.restore true) { State.reset with stream := some { Block.reset with cmd := 0x2C } } (fun k => k.cmd) =
    some 0x2C := by decide
theorem test_restore_fails : returned (.restore false) { State.reset with stream := some Block.reset } = some (.flag false) := by
  decide

/-! ## Witnesses: for each statement with hypotheses, a state and operands that meet them, one for each clause at its edge -/

/-- The state after reset with operations issued. -/
def issued (ops : List Op) (s : State) : State := { s with pending := ops }

/-- The next state of a step, if there is one. -/
def stepped (s : State) : Option State :=
  match step s with
  | .next t => some t
  | _ => none

theorem test_witness_DecodeInvertsEncode :
    (Instr.unassigned 0xFF).wellFormed = true ∧ (Instr.unassigned 0xFF).selectedBy ⟨0, false, 0⟩ = true ∧
    (Instr.portAbove 0x19 (.write 0)).wellFormed = true ∧ (Instr.portAbove 0x19 (.write 0)).selectedBy ⟨0, false, 0⟩ = true ∧
    (Instr.inMassStorage true).wellFormed = true ∧ (Instr.inMassStorage true).selectedBy ⟨1, true, 0⟩ = true ∧
    (Instr.casetParam 0xEF).wellFormed = true ∧ (Instr.casetParam 0xEF).selectedBy ⟨0, false, 0x2A⟩ = true := by decide
theorem test_witness_StepRunsTheDecodedInstruction :
    (issued [.hsync, .vsync] State.reset).pending = .hsync :: [.vsync] ∧ (∀ f, Op.hsync = .frame f → State.reset.block.FrameReady) ∧
    (issued [.frame 0x010] State.reset).pending = .frame 0x010 :: [] ∧ State.reset.block.FrameReady ∧
    ¬ (given fun k => { k with fifo := 8 }).block.FrameReady ∧ ¬ (given fun k => k.writeReg 0x12 1).block.FrameReady ∧
    State.reset.pending = [] := by
  refine ⟨by decide, nofun, by decide, by decide, by decide, by decide, by decide⟩
/-- R83, R109: away from the sentinel a frame is three writes like any others: the first shifts and dispatches nothing. -/
theorem test_frame_away_from_the_sentinel :
    (stepped (issued [.frame 0x028] (given fun k => { k with fifo := 9 }))).map (fun t => (t.block.fifo, t.block.cmd, t.block.mode)) =
      some (0x048, 0x00, 0x03) ∧
    (stepped (issued [.frame 0x028] (given fun k => { k with fifo := 9 }))).map (fun t => t.pending) =
      some [.portWrite 0x18 5, .portWrite 0x18 0] := by decide
/-- R83, R126: on a route without a meaning a frame is refused as its first write is. -/
theorem test_frame_on_another_route : step (issued [.frame 0x028] (given fun k => k.writeReg 0x12 2)) = .refused .route := by rfl
theorem test_witness_PlacedWordRunsNext :
    decodeTable 9 0x1FF = .ok (.frame 0x1FF) ∧ decodeTable 16 0x200 = .ok (.portWrite 0x200 0) ∧
    decodeTable 24 0xFFFFFF = .ok (.portWrite 0xFFFF 0xFF) ∧ (∀ f, Op.portWrite 0xFFFF 0xFF ≠ .frame f) ∧
    decodeTableWord 16 0x02A = some .caset := by
  refine ⟨by rfl, by rfl, by rfl, nofun, by rfl⟩
/-- A frame placed in a state with another route and another phase is ready there. -/
theorem test_placed_frame_is_ready :
    ((given fun k => { k.writeReg 0x12 2 with fifo := 9 }).withFetchWord 16 0x028).block.FrameReady := by decide
theorem test_witness_LcdWriteShiftsThenDispatches :
    ((given fun k => { k with fifo := 63 }).block.fifo.toNat * 8 + (7 : Byte).toNat % 8) % 1024 < 512 ∧
    512 ≤ ((given fun k => { k with fifo := 64 }).block.fifo.toNat * 8 + (0 : Byte).toNat % 8) % 1024 := by decide
theorem test_witness_ThreeWritesRunTheFrame : State.reset.block.regs[0x12] = 0 ∧ State.reset.block.fifo = 1 := by decide
theorem test_witness_RegisterReadReturns :
    (15 : Fin 24).val = (15 : BitVec 4).toNat ∧ (16 : Fin 24).val = 16 + (0 : BitVec 3).toNat ∧
    (23 : Fin 24).val = 16 + (7 : BitVec 3).toNat ∧ (0 : Fin 24).val = (0 : BitVec 4).toNat := by decide
theorem test_witness_StepRefusedExactly :
    (issued [.portWrite 0x18 7] (given fun k => k.writeReg 0x12 2)).block.regs[0x12] = 2 ∧
    (issued [.frame 0x1FF] (given fun k => k.writeReg 0x12 0xFF)).pending = .frame 0x1FF :: [] ∧
    (given fun k => k.writeReg 0x12 0xFF).block.regs[0x12] = 0xFF ∧
    (issued [.portRead 0x19 true] State.reset).pending = .portRead 0x19 true :: [] ∧ 0x18 < (0x19 : U16).toNat := by decide
theorem test_witness_WindowCommandsAssemblePairs : State.reset.block.FrameReady := by decide
theorem test_witness_CommandFramesKeepTheRest :
    encode .nop = .frame 0x000 ∧ (0x000 : U9).getLsbD 8 = false ∧ encode (.unassigned 0xFF) = .frame 0x0FF ∧
    (0x0FF : U9).getLsbD 8 = false ∧ Instr.nop ≠ .ramwr ∧ Instr.ramwr ≠ .swreset := by decide
theorem test_witness_ScrollParameters :
    2 ≤ (given fun k => { k with param := 2 }).block.param.toNat ∧ (given fun k => { k with param := 1 }).block.param.toNat < 2 := by
  decide
theorem test_witness_DisabledPixelBytesOnlyCount :
    (given fun k => { k with ifCtl := 0x10, ifBpp := 6 }).block.ifCtl.getLsbD 4 = true ∧
    ((given fun k => { k with ifBpp := 7 }).block.ifBpp.toNat % 8 ≠ 3 ∧
      (given fun k => { k with ifBpp := 7 }).block.ifBpp.toNat % 8 ≠ 5 ∧
      (given fun k => { k with ifBpp := 7 }).block.ifBpp.toNat % 8 ≠ 6) := by decide

/-- Blocks between two bytes of a pixel, with the accumulators at the top of their ranges, for the three formats. -/
def between (cmd ifBpp red green : Byte) (param : U32) : State :=
  given fun k => { k with cmd := cmd, ifBpp := ifBpp, ifRed := red, ifGreen := green, param := param }

theorem test_witness_PixelBytesComplete :
    (between 0x2C 6 63 63 2).block.SerialOk ∧ (between 0x3C 5 31 63 1).block.SerialOk ∧ (between 0x2C 3 15 15 1).block.SerialOk ∧
    (between 0x2C 6 63 63 2).block.cmd = 0x2C ∧ (between 0x3C 5 31 63 1).block.cmd = 0x3C := by
  refine ⟨?_, ?_, ?_, rfl, rfl⟩ <;> unfold Block.SerialOk <;> decide
/-- The clauses: a byte that completes no pixel at each depth and in configuration mode, and one that does at each depth. -/
theorem test_witness_PixelBytesComplete_clauses :
    (¬ (between 0x2C 6 63 63 1).block.ByteCompletes ∧ (between 0x2C 6 63 63 2).block.ByteCompletes) ∧
    (¬ (between 0x3C 5 31 63 0).block.ByteCompletes ∧ (between 0x3C 5 31 63 1).block.ByteCompletes) ∧
    (¬ (between 0x2C 3 15 15 0).block.ByteCompletes ∧ (between 0x2C 3 15 15 1).block.ByteCompletes ∧
      (between 0x2C 3 15 15 2).block.ByteCompletes) ∧
    ¬ (given fun k => { k with ifCtl := 0x10, ifBpp := 6, param := 2 }).block.ByteCompletes :=
  ⟨by decide, by decide, by decide, by decide⟩
/-- The places of the cursor: on a cell and not exhausted, exhausted, outside the GRAM. -/
theorem test_witness_PixelBytesComplete_cursor :
    (between 0x2C 6 63 63 2).block.exhausted = false ∧ (given fun k => { k with exhausted := true }).block.exhausted = true ∧
    240 ≤ (given fun k => { k with colReg := 240 }).block.colReg.toNat := by decide
theorem test_witness_Serial18IsPixelPort :
    (between 0x2C 6 0 0 0xFFFFFFFC).block.FrameReady ∧ (between 0x2C 6 0 0 0xFFFFFFFC).block.cmd = 0x2C ∧ (between 0x2C 6 0 0 0xFFFFFFFC).block.ifCtl.getLsbD 4 = false ∧
    (between 0x2C 6 0 0 0xFFFFFFFC).block.ifBpp.toNat % 8 = 6 ∧ (between 0x2C 6 0 0 0xFFFFFFFC).block.param.toNat % 3 = 0 ∧
    (between 0x2C 6 0 0 0xFFFFFFFC).block.param.toNat + 2 < 2 ^ 32 := by decide
theorem test_witness_Serial16IsPixelPort :
    (between 0x3C 0x55 0 0 0).block.FrameReady ∧ (between 0x3C 0x55 0 0 0).block.cmd = 0x3C ∧ (between 0x3C 0x55 0 0 0).block.ifCtl.getLsbD 4 = false ∧
    (between 0x3C 0x55 0 0 0).block.ifBpp.toNat % 8 = 5 ∧ (between 0x3C 0x55 0 0 0).block.param.toNat % 2 = 0 := by decide
theorem test_witness_Serial12IsPixelPort :
    (between 0x2C 3 0 0 3).block.FrameReady ∧ (between 0x2C 3 0 0 3).block.cmd = 0x2C ∧ (between 0x2C 3 0 0 3).block.ifCtl.getLsbD 4 = false ∧
    (between 0x2C 3 0 0 3).block.ifBpp.toNat % 8 = 3 ∧ (between 0x2C 3 0 0 3).block.param.toNat % 3 = 0 ∧
    (between 0x2C 3 0 0 3).block.param.toNat + 2 < 2 ^ 32 := by decide
theorem test_witness_Pixel18StoresAtTheCursor : (63 : Byte).toNat < 64 ∧ (0 : Byte).toNat < 64 := by decide
theorem test_witness_Pixel16StoresAtTheCursor :
    (31 : Byte).toNat < 32 ∧ (63 : Byte).toNat < 64 ∧ State.reset.block.lut[(31 : Byte).toNat]? = some 0xFF ∧
    State.reset.block.lut[32 + (63 : Byte).toNat]? = some 0xFF := by decide
theorem test_witness_Pixel12StoresAtTheCursor :
    (15 : Byte).toNat < 16 ∧ State.reset.block.lut[(15 : Byte).toNat * 2 + (15 : Byte).toNat / 8]? = some 0xFF ∧
    State.reset.block.lut[32 + ((8 : Byte).toNat * 4 + (8 : Byte).toNat / 4)]? = some 0x8A ∧
    State.reset.block.lut[(1 : Byte).toNat * 2 + (1 : Byte).toNat / 8]? = some 0x10 := by decide

/-- A cursor at a place in the reset window, under a `mac`. -/
def cursorAt (mac : Byte) (rowReg colReg : U9) : Block := { Block.reset with mac := mac, rowReg := rowReg, colReg := colReg }

/-- The ranges of the three entry points, each at its top. -/
theorem test_witness_CursorAdvancesAfterAPixel_ranges :
    State.reset.block.exhausted = false ∧ (63 : Byte).toNat < 64 ∧ (31 : Byte).toNat < 32 ∧ (15 : Byte).toNat < 16 := by decide
/-- The three clauses without exchange: inside a line, at both ends, at the end of a line that is not the last. -/
theorem test_witness_CursorAdvancesAfterAPixel_column :
    (cursorAt 0 0 238).exhausted = false ∧ (cursorAt 0 0 238).mac.getLsbD 5 = false ∧
    (cursorAt 0 0 238).colReg ≠ (cursorAt 0 0 238).colEnd ∧
    (cursorAt 0 319 239).colReg = (cursorAt 0 319 239).colEnd ∧ (cursorAt 0 319 239).rowReg = (cursorAt 0 319 239).rowEnd ∧
    (cursorAt 0 319 239).colStart.toNat ≤ (cursorAt 0 319 239).colEnd.toNat ∧
    (cursorAt 0 319 239).rowStart.toNat ≤ (cursorAt 0 319 239).rowEnd.toNat ∧
    (cursorAt 0 318 239).colReg = (cursorAt 0 318 239).colEnd ∧ (cursorAt 0 318 239).rowReg ≠ (cursorAt 0 318 239).rowEnd := by
  decide
/-- The three clauses with exchange. -/
theorem test_witness_CursorAdvancesAfterAPixel_row :
    (cursorAt 0x20 0 0).exhausted = false ∧ (cursorAt 0x20 0 0).mac.getLsbD 5 = true ∧
    (cursorAt 0x20 0 0).rowReg ≠ (cursorAt 0x20 0 0).colEnd ∧
    (cursorAt 0x20 239 319).rowReg = (cursorAt 0x20 239 319).colEnd ∧
    (cursorAt 0x20 239 319).colReg = (cursorAt 0x20 239 319).rowEnd ∧
    (cursorAt 0x20 239 319).colStart.toNat ≤ (cursorAt 0x20 239 319).colEnd.toNat ∧
    (cursorAt 0x20 239 319).rowStart.toNat ≤ (cursorAt 0x20 239 319).rowEnd.toNat ∧
    (cursorAt 0x20 239 318).rowReg = (cursorAt 0x20 239 318).colEnd ∧
    (cursorAt 0x20 239 318).colReg ≠ (cursorAt 0x20 239 318).rowEnd := by decide
/-- The line-end clauses through an inverted window. -/
theorem test_witness_CursorAdvancesAfterAPixel_inverted :
    reversed.colReg = reversed.colEnd ∧ reversed.rowReg = reversed.rowEnd ∧ reversed.colEnd.toNat < reversed.colStart.toNat := by
  decide

/-- An exhausted cursor. -/
def parked : State := given fun k => { k with rowReg := 0x1FF, colReg := 0xFF, exhausted := true }

theorem test_witness_OnlyACursorResetUnparks :
    parked.block.exhausted = true ∧
    (stepped (issued [.frame 0x02C] parked)).map (fun t => t.block.exhausted) = some false ∧
    (stepped (issued [.vsync] (given fun k => { k with exhausted := true, ifCtl := 0x10 }))).map (fun t => t.block.exhausted) =
      some false ∧
    (stepped (issued [.powerOnReset] parked)).map (fun t => t.block.exhausted) = some false ∧
    (stepped (issued [.restore true] { parked with stream := some Block.reset })).map (fun t => t.block.exhausted) = some false ∧
    (stepped (issued [.portWrite 0x18 4] (given fun k => { k with exhausted := true, fifo := 0x045 }))).map
      (fun t => (t.block.exhausted, t.block.cmd)) = some (false, 0x2C) ∧
    (stepped (issued [.frame 0x100] (given fun k => { k with exhausted := true, fifo := 0x045 }))).map
      (fun t => (t.block.exhausted, t.block.cmd, t.block.param)) = some (false, 0x2C, 0) := by decide

/-- A window of two columns and one row at the last cells of the GRAM, the cursor at its start. -/
def smallWindow : State :=
  given fun k => { k with colStart := 238, colEnd := 239, rowStart := 319, rowEnd := 319, rowReg := 319, colReg := 238 }

/-- The list is the whole window; its first pixel alone is the list of the other clause. -/
theorem test_witness_WindowPassFillsTheWindow :
    smallWindow.block.mac.getLsbD 5 = false ∧ smallWindow.block.mac.getLsbD 6 = false ∧
    smallWindow.block.colStart.toNat ≤ smallWindow.block.colEnd.toNat ∧ smallWindow.block.colEnd.toNat ≤ 239 ∧
    smallWindow.block.rowStart.toNat ≤ smallWindow.block.rowEnd.toNat ∧ smallWindow.block.rowEnd.toNat ≤ 319 ∧
    smallWindow.block.rowReg = smallWindow.block.rowStart ∧ smallWindow.block.colReg = smallWindow.block.colStart ∧
    smallWindow.block.exhausted = false ∧
    (∀ p ∈ ([(63, 0, 32), (1, 2, 3)] : List (Byte × Byte × Byte)), p.1.toNat < 64 ∧ p.2.1.toNat < 64 ∧ p.2.2.toNat < 64) ∧
    ([(63, 0, 32), (1, 2, 3)] : List (Byte × Byte × Byte)).length =
      (smallWindow.block.colEnd.toNat - smallWindow.block.colStart.toNat + 1) *
        (smallWindow.block.rowEnd.toNat - smallWindow.block.rowStart.toNat + 1) := by
  refine ⟨by decide, by decide, by decide, by decide, by decide, by decide, by decide, by decide, by decide, by simp, rfl⟩
theorem test_witness_HsyncEvaluatesTheNextRow :
    ((given fun k => { k with row := 318 }).block.row.toNat + 1) % 65536 ≤ 319 ∧
    319 < ((given fun k => { k with row := 319 }).block.row.toNat + 1) % 65536 := by decide
theorem test_witness_VsyncIsIdempotent : (after .vsync State.reset).isSome = true := by decide
theorem test_witness_ScanIgnoresTheCursor : Instr.hsync ∈ ([.hsync, .refresh] : List Instr) := by decide
theorem test_witness_RefreshWritesItsCell :
    (scanning 0x80 0).block.mode.getLsbD 7 = true ∧ (scanning 0x00 0).block.mode.getLsbD 7 = false ∧
    (given fun k => { k with col := 239, dstRow := 319 }).block.col.toNat < 240 ∧
    (given fun k => { k with col := 239, dstRow := 319 }).block.dstRow.toNat < 320 ∧
    240 ≤ (given fun k => { k with col := 240 }).block.col.toNat := by decide
/-- Log 10: a refresh outside the output buffer completes and writes no cell. -/
theorem test_refresh_outside : see .refresh (given fun k => { k with col := 240, colDir := .forward })
    (fun k => (k.display, k.col, k.mode)) = some ([], 241, 0x83) := by decide
theorem test_witness_RefreshBlankColour :
    (scanning 0x40 0).block.mode.getLsbD 7 = false ∧ (scanning 0x40 0).block.col.toNat < 240 ∧
    (scanning 0x40 0).block.dstRow.toNat < 320 ∧ (scanning 0x40 0).block.mode.getLsbD 6 = true ∧
    (scanning 0x01 0).block.mode.getLsbD 0 = true ∧ (scanning 0x02 0).block.mode.getLsbD 1 = true := by decide

/-- A block awake and scanning, with a source row. -/
def sourceRow (srcRow : U16) : State := given fun k => { k with mode := 0, srcRow := srcRow, colDir := .forward }

theorem test_witness_RefreshNoise :
    (sourceRow 320).block.mode.getLsbD 7 = false ∧ (sourceRow 320).block.col.toNat < 240 ∧
    (sourceRow 320).block.dstRow.toNat < 320 ∧ (sourceRow 320).block.mode.getLsbD 0 = false ∧
    (sourceRow 320).block.mode.getLsbD 1 = false ∧ (sourceRow 320).block.mode.getLsbD 6 = false ∧
    320 ≤ (sourceRow 320).block.srcRow.toNat := by decide
theorem test_witness_RefreshShowsTheGram :
    (sourceRow 319).block.mode.getLsbD 7 = false ∧ (sourceRow 319).block.col.toNat < 240 ∧
    (sourceRow 319).block.dstRow.toNat < 320 ∧ (sourceRow 319).block.mode.getLsbD 0 = false ∧
    (sourceRow 319).block.mode.getLsbD 1 = false ∧ (sourceRow 319).block.mode.getLsbD 6 = false ∧
    (sourceRow 319).block.srcRow.toNat < 320 := by decide
theorem test_witness_LineEndsAfter240Refreshes :
    240 ≤ 240 ∧ (scanning 0 0).block.col = 0 ∧ (scanning 0 0).block.colDir = .forward ∧
    (scanning 0 0).block.mode.getLsbD 7 = false ∧ (scanning 0 0).block.dstRow.toNat < 320 :=
  ⟨Nat.le_refl 240, by decide⟩
theorem test_witness_RefreshBeforeTheFirstRow : 0 < 1 := by decide

/-- An accumulated block on revision M, routed to the responder. -/
def inquiring (code : Byte) : State :=
  { given (fun k => { k with regs := k.regs.set 0x12 1, cbw := accumulated code }) with effectiveRevision := .m }

theorem test_witness_MassStorageReads :
    0 < (given fun k => { k with dataLength := 1 }).block.dataLength ∧ (inquiring 0x12).block.dataLength = 0 ∧
    ((inquiring 0x12).block.cbw[0] = 0x55 ∧ (inquiring 0x12).block.cbw[1] = 0x53 ∧ (inquiring 0x12).block.cbw[2] = 0x42 ∧
      (inquiring 0x12).block.cbw[3] = 0x43) ∧ (inquiring 0x12).block.cbw[15] = 0x12 ∧ (inquiring 0x13).block.cbw[15] ≠ 0x12 ∧
    State.reset.block.dataLength = 0 ∧
    ¬ (State.reset.block.cbw[0] = 0x55 ∧ State.reset.block.cbw[1] = 0x53 ∧ State.reset.block.cbw[2] = 0x42 ∧
      State.reset.block.cbw[3] = 0x43) := by decide
theorem test_witness_InquiryExchange :
    (55 : Nat) ≤ 55 ∧ (inquiring 0x12).block.regs[0x12] = 1 ∧ (inquiring 0x12).effectiveRevision = .m ∧
    (inquiring 0x12).block.dataLength = 0 ∧
    ((inquiring 0x12).block.cbw[0] = 0x55 ∧ (inquiring 0x12).block.cbw[1] = 0x53 ∧ (inquiring 0x12).block.cbw[2] = 0x42 ∧
      (inquiring 0x12).block.cbw[3] = 0x43) ∧ (inquiring 0x12).block.cbw[15] = 0x12 := by decide
theorem test_witness_RevisionGatesOnlyTheResponder :
    (issued [.portRead 0x18 false] (given fun k => k.writeReg 0x12 1)).effectiveRevision ≠ .m ∧ Revision.i ≠ .m ∧
    ¬ ((issued [.portRead 0x18 false] State.reset).block.regs[0x12] = 1) ∧
    ¬ ((issued [.frame 0x010] State.reset).block.regs[0x12] = 1) := by decide
theorem test_witness_SaveThenRestore :
    State.reset.stream = none ∧ (after (.save true) State.reset).isSome = true ∧
    ({ State.reset with stream := some Block.reset } : State).stream = some State.reset.block := by decide
theorem test_witness_FlagsHaveTheirWriters :
    (after .slpout State.reset).isSome = true ∧ Instr.slpout ≠ .swreset ∧ Instr.slpout ≠ .reset ∧
    (∀ ok, Instr.slpout ≠ .restore ok) ∧ (∀ v, Instr.slpout ≠ .outLcd v) ∧
    see .slpout State.reset (fun k => k.mode.getLsbD 0) ≠ some (State.reset.block.mode.getLsbD 0) := by decide

/-- A block awake after reset meets the invariant. -/
theorem test_awake_inv : ({ Block.reset with mode := 0 } : Block).Inv where
  fifo := .inl rfl
  frameWf := by decide
  displayWf := by decide
  frameWithin := by intro c hc; cases hc
  displayWithin := by intro c hc; cases hc
  frameNoAlpha := by intro c hc; cases hc
  row := by decide
  dstRow := by decide
  sentinel := by decide
  view := by decide
  lut := rfl
  cswTail := by decide
  cswIndex := rfl
  serial := by
    intro h
    exact absurd h (by decide)

theorem test_witness_OnlyThePixelPortFaults :
    (issued [.pixel18 64 0 0] (given fun k => { k with mode := 0 })).Inv ∧
    step (issued [.pixel18 64 0 0] (given fun k => { k with mode := 0 })) = .fault .pixel18Range :=
  ⟨⟨test_awake_inv, fun _ h => by cases h⟩, rfl⟩
theorem test_witness_UnreadElementsHaveNoEffect :
    (issued [.refreshPixel] State.reset).unreadErased =
      (issued [.refreshPixel] (given fun k => { k with gamma := 8, tear := true, scrollArea := 7 })).unreadErased ∧
    (∀ ok, (issued [.refreshPixel] State.reset).pending.head? ≠ some (.save ok)) := by
  refine ⟨rfl, by decide⟩
theorem test_witness_StepKeepsTheInvariant :
    (issued [.hsync] (given fun k => { k with mode := 0 })).Inv ∧
    (stepped (issued [.hsync] (given fun k => { k with mode := 0 }))).isSome = true :=
  ⟨⟨test_awake_inv, fun _ h => by cases h⟩, by decide⟩

end Sys2Proof.Tests
end

section
/-! What each operation keeps of the invariant, up to the step (O60). The serial clause of the invariant reads other fields than
its other clauses do, and a serial byte keeps it only together with the increment of R171, so the two parts are kept apart:
`Block.tracked` has the fields of the other clauses. -/

namespace Sys2Proof.Machine

/-! ### The parameter effects -/

theorem casetEffect_shape (b : Byte) (k : Block) :
    casetEffect b k = { k with colStart := (casetEffect b k).colStart, colEnd := (casetEffect b k).colEnd } := by
  unfold casetEffect
  split <;> rfl

theorem rasetEffect_shape (b : Byte) (k : Block) :
    rasetEffect b k = { k with rowStart := (rasetEffect b k).rowStart, rowEnd := (rasetEffect b k).rowEnd } := by
  unfold rasetEffect
  split <;> rfl

theorem ptlarEffect_shape (b : Byte) (k : Block) :
    ptlarEffect b k =
      { k with partialStart := (ptlarEffect b k).partialStart, partialEnd := (ptlarEffect b k).partialEnd } := by
  unfold ptlarEffect
  split <;> rfl

theorem vscrdefEffect_shape (b : Byte) (k : Block) :
    vscrdefEffect b k =
      { k with
        topArea := (vscrdefEffect b k).topArea
        scrollArea := (vscrdefEffect b k).scrollArea
        bottomArea := (vscrdefEffect b k).bottomArea } := by
  unfold vscrdefEffect
  split <;> rfl

theorem vscrsaddEffect_shape (b : Byte) (k : Block) :
    vscrsaddEffect b k =
      { k with scrollStart := (vscrsaddEffect b k).scrollStart, mode := (vscrsaddEffect b k).mode } := by
  unfold vscrsaddEffect
  split <;> rfl

theorem madctlEffect_shape (b : Byte) (k : Block) : madctlEffect b k = { k with mac := (madctlEffect b k).mac } := by
  unfold madctlEffect
  split <;> rfl

theorem colmodEffect_shape (b : Byte) (k : Block) : colmodEffect b k = { k with ifBpp := (colmodEffect b k).ifBpp } := by
  unfold colmodEffect
  split <;> rfl

theorem ramctrlEffect_shape (b : Byte) (k : Block) : ramctrlEffect b k = { k with ifCtl := (ramctrlEffect b k).ifCtl } := by
  unfold ramctrlEffect
  split <;> rfl

theorem gamsetEffect_shape (b : Byte) (k : Block) : gamsetEffect b k = { k with gamma := (gamsetEffect b k).gamma } := by
  unfold gamsetEffect
  split <;> rfl

theorem pvgamctrlEffect_shape (b : Byte) (k : Block) :
    pvgamctrlEffect b k = { k with gammaTable0 := (pvgamctrlEffect b k).gammaTable0 } := by
  unfold pvgamctrlEffect
  split <;> rfl

theorem nvgamctrlEffect_shape (b : Byte) (k : Block) :
    nvgamctrlEffect b k = { k with gammaTable1 := (nvgamctrlEffect b k).gammaTable1 } := by
  unfold nvgamctrlEffect
  split <;> rfl

/-! ### Serial pixel bytes -/

/-- What a pixel byte can make of a block: it latches channels, or it stores one triplet and latches channels. -/
inductive LatchesOrStores (k : Block) : Block → Prop
  | latches (red green blue : Byte) : LatchesOrStores k (k.withSerial k.param red green blue)
  | stores (x y z red green blue : Byte) : LatchesOrStores k ((storePixel x y z k).withSerial k.param red green blue)

/-- A store after a latch is a latch after a store. -/
theorem latchesOrStores_storePixel (x y z red green blue : Byte) (k : Block) :
    LatchesOrStores k (storePixel x y z (k.withSerial k.param red green blue)) := by
  rw [storePixel_withSerial]
  exact .stores x y z red green blue

theorem demux18_cases {b : Byte} {n : Nat} {k k' : Block} (h : demux18 b n k = .ok k') : LatchesOrStores k k' := by
  unfold demux18 at h
  split at h
  · cases h
    exact .latches (channel18 b) k.ifGreen k.ifBlue
  · cases h
    exact .latches k.ifRed (channel18 b) k.ifBlue
  · rw [pixel18_stores h]
    exact latchesOrStores_storePixel _ _ _ k.ifRed k.ifGreen (channel18 b) k

theorem demux16_cases {b : Byte} {n : Nat} {k k' : Block} (h : demux16 b n k = .ok k') : LatchesOrStores k k' := by
  unfold demux16 at h
  split at h
  · cases h
    exact .latches (red16 b) (greenHigh16 b) k.ifBlue
  · obtain ⟨x, y, z, rfl⟩ := pixel16_stores h
    exact latchesOrStores_storePixel x y z k.ifRed (k.ifGreen ||| greenLow16 b) (blue16 b) k

theorem demux12_cases {b : Byte} {n : Nat} {k k' : Block} (h : demux12 b n k = .ok k') : LatchesOrStores k k' := by
  unfold demux12 at h
  split at h
  · cases h
    exact .latches (highNibble b) (lowNibble b) k.ifBlue
  · split at h
    · rename_i hp
      cases h
      obtain ⟨x, y, z, rfl⟩ := pixel12_stores hp
      have hs : storePixel x y z { k with ifBlue := highNibble b } =
          (storePixel x y z k).withSerial k.param k.ifRed k.ifGreen (highNibble b) :=
        storePixel_withSerial x y z k.param k.ifRed k.ifGreen (highNibble b) k
      rw [hs]
      exact .stores x y z (lowNibble b) k.ifGreen (highNibble b)
    · cases h
  · obtain ⟨x, y, z, rfl⟩ := pixel12_stores h
    exact latchesOrStores_storePixel x y z k.ifRed (highNibble b) (lowNibble b) k

/-- R179, R230: all that a pixel byte can do. -/
theorem memoryWriteByte_cases {b : Byte} {k k' : Block} (h : memoryWriteByte b k = .ok k') : LatchesOrStores k k' := by
  have hidle : LatchesOrStores k k := .latches k.ifRed k.ifGreen k.ifBlue
  unfold memoryWriteByte serialPixelByte at h
  split at h
  · cases h
    exact hidle
  · split at h
    · exact demux18_cases h
    · exact demux16_cases h
    · exact demux12_cases h
    · cases h
      exact hidle

/-- R179: a pixel byte changes the GRAM, the cursor and the accumulators alone. -/
theorem memoryWriteByte_shape {b : Byte} {k k' : Block} (h : memoryWriteByte b k = .ok k') :
    k' = (k.withCursor k'.frame k'.rowReg k'.colReg k'.exhausted).withSerial k.param k'.ifRed k'.ifGreen k'.ifBlue := by
  cases memoryWriteByte_cases h with
  | latches red green blue => rfl
  | stores x y z red green blue =>
    rw [storePixel_shape]
    rfl

/-- R170: a pixel parameter that completes is a pixel byte and the increment of R171. -/
theorem pixelParamFrame_next {b : Byte} {k k' : Block} (h : pixelParamFrame b k = .ok k') :
    ∃ k₁, memoryWriteByte b k = .ok k₁ ∧ k' = advanceParam k₁ := by
  unfold pixelParamFrame at h
  split at h
  · rename_i k₁ hk
    cases h
    exact ⟨k₁, hk, rfl⟩
  · cases h

/-! ### The accumulators between two pixel bytes -/

/-- R231: what an 18-bpp byte leaves for the next one. -/
theorem demux18_accumulators {b : Byte} {n : Nat} {k k' : Block} (h : demux18 b n k = .ok k') :
    (n = 0 → k'.ifRed.toNat < 64) ∧ (n = 1 → k'.ifRed = k.ifRed ∧ k'.ifGreen.toNat < 64) := by
  constructor
  · rintro rfl
    cases h
    exact channel18_lt b
  · rintro rfl
    cases h
    exact ⟨rfl, channel18_lt b⟩

/-- R232: what a 16-bpp byte leaves for the next one. -/
theorem demux16_accumulators {b : Byte} {k k' : Block} (h : demux16 b 0 k = .ok k') :
    k'.ifRed.toNat < 32 ∧ k'.ifGreen.toNat < 64 := by
  cases h
  exact ⟨red16_lt b, (green16_lt b).1⟩

/-- R233: what a 12-bpp byte leaves for the next one. -/
theorem demux12_accumulators {b : Byte} {n : Nat} {k k' : Block} (h : demux12 b n k = .ok k') :
    (n = 0 → k'.ifRed.toNat < 16 ∧ k'.ifGreen.toNat < 16) ∧ (n = 1 → k'.ifRed.toNat < 16) := by
  constructor
  · rintro rfl
    cases h
    exact nibble_lt b
  · rintro rfl
    simp only [demux12] at h
    split at h <;> cases h
    exact (nibble_lt b).2

/-- R171: the byte roles after an increment; at the wrap the index is 0, the first role again. -/
theorem param_succ_phase (p : U32) :
    ((p + 1).toNat % 3 ≠ 0 → (p + 1).toNat % 3 = p.toNat % 3 + 1) ∧ ((p + 1).toNat % 2 = 1 → p.toNat % 2 = 0) := by
  have hp := p.isLt
  have hsucc : (p + 1).toNat = (p.toNat + 1) % 2 ^ 32 := BitVec.toNat_add p 1
  rcases Nat.lt_or_ge (p.toNat + 1) (2 ^ 32) with hlt | hge
  · rw [Nat.mod_eq_of_lt hlt] at hsucc
    omega
  · have hwrap : (p + 1).toNat = 0 := by omega
    omega

/-- R231 to R233: a pixel byte and the increment of R171 leave the accumulators in range for the next byte. -/
theorem advanceParam_serialOk {b : Byte} {k k' : Block} (hk : k.SerialOk) (h : memoryWriteByte b k = .ok k') :
    (advanceParam k').SerialOk := by
  intro hcmd hctl
  obtain ⟨hphase3, hphase2⟩ := param_succ_phase k.param
  have hshape := memoryWriteByte_shape h
  have hcmd' : k.cmd = 0x2C ∨ k.cmd = 0x3C := by rw [hshape] at hcmd; exact hcmd
  have hctl' : k.configOnly = false := by rw [hshape] at hctl; exact hctl
  have hparam : (advanceParam k').param = k.param + 1 := by rw [hshape]; rfl
  have hbpp : (advanceParam k').ifBpp = k.ifBpp := by rw [hshape]; rfl
  rw [hparam, hbpp]
  rw [memoryWriteByte, if_neg (by simp [hctl']), serialPixelByte] at h
  obtain ⟨h18, -, -⟩ := hk hcmd' hctl'
  refine ⟨fun hb => ?_, fun hb => ?_, fun hb => ?_⟩ <;> simp only [hb] at h
  · obtain ⟨hred, -⟩ := h18 hb
    obtain ⟨hfirst, hsecond⟩ := demux18_accumulators h
    constructor
    · intro hp
      rcases Nat.eq_zero_or_pos (k.param.toNat % 3) with h0 | h0
      · exact hfirst h0
      · have h1 : k.param.toNat % 3 = 1 := by omega
        rw [show (advanceParam k').ifRed = k.ifRed from (hsecond h1).1]
        exact hred (by omega)
    · intro hp
      exact (hsecond (by omega)).2
  · intro hp
    rw [hphase2 hp] at h
    exact demux16_accumulators (k' := k') h
  · obtain ⟨hfirst, hsecond⟩ := demux12_accumulators h
    constructor
    · intro hp
      rcases Nat.eq_zero_or_pos (k.param.toNat % 3) with h0 | h0
      · exact (hfirst h0).1
      · exact hsecond (by omega)
    · intro hp
      exact (hfirst (by omega)).2

/-- The first byte after a command asks nothing of the accumulators. -/
theorem serialOk_of_param_zero {k : Block} (h : k.param = 0) : k.SerialOk := by
  intro _ _
  simp [h]

/-- Under a command that takes no pixel bytes nothing is asked of the accumulators. -/
theorem serialOk_of_cmd {k : Block} (h : ¬ (k.cmd = 0x2C ∨ k.cmd = 0x3C)) : k.SerialOk := fun hcmd => absurd hcmd h

/-! ### The invariant apart from its serial clause -/

/-- A block with the fields that the invariant constrains apart from its serial clause, and every other field as after reset. -/
def Block.tracked (k : Block) : Block :=
  { Block.reset with
    fifo := k.fifo, frame := k.frame, display := k.display, row := k.row, dstRow := k.dstRow, rowReg := k.rowReg,
    colReg := k.colReg, exhausted := k.exhausted, dataOffset := k.dataOffset, dataLength := k.dataLength, lut := k.lut,
    csw := k.csw, cswIndex := k.cswIndex }

/-- The invariant is its serial clause and what it says of the tracked fields. -/
theorem Block.inv_iff (k : Block) : k.Inv ↔ k.tracked.Inv ∧ k.SerialOk := by
  constructor
  · intro h
    exact ⟨{ h with serial := serialOk_of_param_zero rfl }, h.serial⟩
  · rintro ⟨h, hs⟩
    exact { h with serial := hs }

/-- A change of fields that are not tracked keeps the invariant when it keeps the serial clause. -/
theorem Block.Inv.of_tracked {k k' : Block} (h : k.Inv) (ht : k'.tracked = k.tracked) (hs : k'.SerialOk) : k'.Inv :=
  k'.inv_iff.mpr ⟨ht ▸ (k.inv_iff.mp h).1, hs⟩

/-! ### The cursor and the pixel port -/

theorem Block.Inv.withCursor {k : Block} {frame : Memory} {rowReg colReg : U9} {exhausted : Bool} (h : k.Inv)
    (hframe : frame.wf ∧ frame.Within ∧ frame.NoAlpha)
    (hsentinel : exhausted = true → rowReg = 0x1FF ∧ colReg = 0xFF) :
    (k.withCursor frame rowReg colReg exhausted).Inv := by
  obtain ⟨hwf, hwithin, hnoAlpha⟩ := hframe
  exact { h with
    frameWf := hwf, frameWithin := hwithin, frameNoAlpha := hnoAlpha, sentinel := hsentinel, serial := h.serial }

/-- R261: a cursor reset leaves a cursor that is not exhausted. -/
theorem Block.Inv.cursorReset {k : Block} (h : k.Inv) : (cursorReset k).Inv := by
  rw [cursorReset_eq]
  exact h.withCursor ⟨h.frameWf, h.frameWithin, h.frameNoAlpha⟩ (by simp)

/-- R262: a store stays inside the GRAM and off its alpha lanes. -/
theorem Block.Inv.storePixel {k : Block} (h : k.Inv) (r g b : Byte) : (storePixel r g b k).Inv := by
  cases he : k.exhausted with
  | true =>
    rw [storePixel_exhausted r g b he]
    exact h
  | false =>
    rw [storePixel_shape]
    apply h.withCursor
    · rw [storePixel_frame r g b he]
      split
      · rename_i hin
        simp only [cursorInGram, Bool.and_eq_true, decide_eq_true_eq] at hin
        obtain ⟨hrow, hcol⟩ := hin
        exact putFrame_keeps r g b h.frameWf h.frameWithin h.frameNoAlpha hrow hcol
      · exact ⟨h.frameWf, h.frameWithin, h.frameNoAlpha⟩
    · obtain ⟨hrow, hcol, hex⟩ := storePixel_cursor r g b he
      rw [hrow, hcol, hex]
      exact cursorAdvance_sentinel k he

theorem Block.Inv.pixel18 {k k' : Block} {r g b : Byte} (h : k.Inv) (hp : pixel18 r g b k = .ok k') : k'.Inv := by
  rw [pixel18_stores hp]
  exact h.storePixel _ _ _

theorem Block.Inv.pixel16 {k k' : Block} {r g b : Byte} (h : k.Inv) (hp : pixel16 r g b k = .ok k') : k'.Inv := by
  obtain ⟨x, y, z, rfl⟩ := pixel16_stores hp
  exact h.storePixel x y z

theorem Block.Inv.pixel12 {k k' : Block} {r g b : Byte} (h : k.Inv) (hp : pixel12 r g b k = .ok k') : k'.Inv := by
  obtain ⟨x, y, z, rfl⟩ := pixel12_stores hp
  exact h.storePixel x y z

/-! ### Frames and the serial path -/

/-- R140: every command frame sets the opcode's parameter index to 0. -/
theorem commandFrame_param (op : Byte) (k : Block) : (commandFrame op k).param = 0 := by
  unfold commandFrame
  split
  case h_14 =>
    rw [ramwrCmd, cursorReset_eq]
    rfl
  all_goals rfl

/-- R151: the memory write command resets the cursor; no other command frame writes a tracked field. -/
theorem commandFrame_tracked (op : Byte) (k : Block) :
    (commandFrame op k).tracked = k.tracked ∨ commandFrame op k = ramwrCmd k := by
  unfold commandFrame
  split
  case h_14 => exact .inr rfl
  all_goals exact .inl rfl

theorem Block.Inv.commandFrame {k : Block} (h : k.Inv) (op : Byte) : (commandFrame op k).Inv := by
  rcases commandFrame_tracked op k with ht | hr
  · exact h.of_tracked ht (serialOk_of_param_zero (commandFrame_param op k))
  · rw [hr]
    exact (h.of_tracked (k' := beginCommand 0x2C k) rfl (serialOk_of_param_zero rfl)).cursorReset

/-- R178, R180: under a memory write command a parameter frame is a pixel byte. -/
theorem parameterFrame_pixel (b : Byte) {k : Block} (h : k.cmd = 0x2C ∨ k.cmd = 0x3C) :
    parameterFrame b k = pixelParamFrame b k := by
  rcases h with h | h <;> simp [parameterFrame, h]

/-- R170: under any other command a parameter frame keeps the command and writes no tracked field. -/
theorem parameterFrame_keeps {b : Byte} {k k' : Block} (hcmd : ¬ (k.cmd = 0x2C ∨ k.cmd = 0x3C))
    (h : parameterFrame b k = .ok k') : k'.cmd = k.cmd ∧ k'.tracked = k.tracked := by
  unfold parameterFrame paramFrame at h
  split at h
  case h_4 hn => exact absurd (.inl (BitVec.eq_of_toNat_eq hn)) hcmd
  case h_10 hn => exact absurd (.inr (BitVec.eq_of_toNat_eq hn)) hcmd
  all_goals cases h
  case h_1 => rw [gamsetEffect_shape]; exact ⟨rfl, rfl⟩
  case h_2 => rw [casetEffect_shape]; exact ⟨rfl, rfl⟩
  case h_3 => rw [rasetEffect_shape]; exact ⟨rfl, rfl⟩
  case h_5 => rw [ptlarEffect_shape]; exact ⟨rfl, rfl⟩
  case h_6 => rw [vscrdefEffect_shape]; exact ⟨rfl, rfl⟩
  case h_7 => rw [madctlEffect_shape]; exact ⟨rfl, rfl⟩
  case h_8 => rw [vscrsaddEffect_shape]; exact ⟨rfl, rfl⟩
  case h_9 => rw [colmodEffect_shape]; exact ⟨rfl, rfl⟩
  case h_11 => rw [ramctrlEffect_shape]; exact ⟨rfl, rfl⟩
  case h_12 => rw [pvgamctrlEffect_shape]; exact ⟨rfl, rfl⟩
  case h_13 => rw [nvgamctrlEffect_shape]; exact ⟨rfl, rfl⟩
  case h_14 => exact ⟨rfl, rfl⟩

theorem Block.Inv.pixelParamFrame {b : Byte} {k k' : Block} (h : k.Inv) (hp : pixelParamFrame b k = .ok k') : k'.Inv := by
  obtain ⟨k₁, hk₁, rfl⟩ := pixelParamFrame_next hp
  refine (Block.inv_iff _).mpr ⟨?_, advanceParam_serialOk h.serial hk₁⟩
  cases memoryWriteByte_cases hk₁ with
  | latches red green blue => exact (k.inv_iff.mp h).1
  | stores x y z red green blue => exact ((Block.inv_iff _).mp (h.storePixel x y z)).1

theorem Block.Inv.parameterFrame {b : Byte} {k k' : Block} (h : k.Inv) (hp : parameterFrame b k = .ok k') : k'.Inv := by
  by_cases hcmd : k.cmd = 0x2C ∨ k.cmd = 0x3C
  · rw [parameterFrame_pixel b hcmd] at hp
    exact h.pixelParamFrame hp
  · obtain ⟨hsame, htracked⟩ := parameterFrame_keeps hcmd hp
    exact h.of_tracked htracked (serialOk_of_cmd (hsame ▸ hcmd))

theorem Block.Inv.runFrame {f : U9} {k k' : Block} (h : k.Inv) (hr : runFrame f k = .ok k') : k'.Inv := by
  unfold Machine.runFrame at hr
  split at hr
  · exact h.parameterFrame hr
  · cases hr
    exact h.commandFrame _

/-- R22: a write that completes no frame leaves the sentinel and one or two groups behind it. -/
theorem fifoOk_shiftIn {k : Block} (h : k.FifoOk) (v : Byte) (hc : (shiftIn k.fifo v).getLsbD 9 = false) :
    ({ k with fifo := shiftIn k.fifo v } : Block).FifoOk := by
  rw [complete_iff, decide_eq_false_iff_not, shiftIn_toNat] at hc
  unfold Block.FifoOk at h ⊢
  dsimp only
  rw [shiftIn_toNat]
  omega

/-- R123: a completed frame runs with the shift register back at its sentinel. -/
theorem Block.Inv.lcdShift {v : Byte} {k k' : Block} (h : k.Inv) (hl : lcdShift v k = .ok k') : k'.Inv := by
  unfold Machine.lcdShift at hl
  split at hl
  · exact Block.Inv.runFrame (k := { k with fifo := 1 }) { h with fifo := .inl rfl, serial := h.serial } hl
  · rename_i hc
    cases hl
    exact { h with fifo := fifoOk_shiftIn h.fifo v (by simpa using hc), serial := h.serial }

/-! ### The responder, the scan, refresh and power-on -/

/-- R283: a pop moves one byte of the view behind it. -/
theorem Block.Inv.msPop {k : Block} (h : k.Inv) (hlen : 0 < k.dataLength) : (msPop k).2.Inv := by
  have hv : k.dataOffset + 1 + (k.dataLength - 1) ≤ Config.inquiryLength := by
    have := h.view
    omega
  exact { h with view := hv, serial := h.serial }

/-- R284: the bytes of the status wrapper that no build writes. -/
theorem msBuildStatus_csw_tail (k : Block) :
    (msBuildStatus k).csw[13] = k.csw[13] ∧ (msBuildStatus k).csw[14] = k.csw[14] ∧
      (msBuildStatus k).csw[15] = k.csw[15] := by
  simp [msBuildStatus, statusByte]

theorem Block.Inv.withStatus {k : Block} {csw : Vector Byte 16} {dataOffset dataLength : Nat} (h : k.Inv)
    (htail : csw[13] = 0 ∧ csw[14] = 0 ∧ csw[15] = 0) (hview : dataOffset + dataLength ≤ Config.inquiryLength) :
    ({ k with csw := csw, cswIndex := 0, dataOffset := dataOffset, dataLength := dataLength } : Block).Inv :=
  { h with view := hview, cswTail := htail, cswIndex := rfl, serial := h.serial }

/-- R284: a status build keeps the view, or opens it on the whole response. -/
theorem Block.Inv.msBuildStatus {k : Block} (h : k.Inv) : (msBuildStatus k).Inv := by
  obtain ⟨h13, h14, h15⟩ := msBuildStatus_csw_tail k
  obtain ⟨hk13, hk14, hk15⟩ := h.cswTail
  apply h.withStatus
  · exact ⟨h13.trans hk13, h14.trans hk14, h15.trans hk15⟩
  · have := h.view
    split <;> omega

theorem Block.Inv.msClearAccumulator {k : Block} (h : k.Inv) : (msClearAccumulator k).Inv :=
  h.of_tracked rfl h.serial

theorem Block.Inv.msRead {k : Block} (h : k.Inv) : (msRead k).2.Inv := by
  unfold Machine.msRead
  split
  · rename_i hlen
    exact h.msPop hlen
  · split
    · exact h.msBuildStatus.msClearAccumulator
    · exact h.msClearAccumulator

/-- R211, R214: a row that is evaluated is at most the last, and so is its mirror image. -/
theorem Block.Inv.evalRow {k : Block} (h : k.Inv) (t : U16) : (evalRow t k).2.Inv := by
  rcases Nat.lt_or_ge 319 t.toNat with ht | ht
  · rw [evalRow_past k t ht]
    exact { h with serial := h.serial }
  · obtain ⟨mode', he, -⟩ := evalRow_visible k t ht
    rw [he]
    refine { h with row := ?_, dstRow := ?_, serial := h.serial } <;>
      simp only [rowEvaluated, mirrored, Config.lastRow, BitVec.toNat_ofNat]
    · omega
    · split <;> omega

theorem Block.Inv.vsync {k : Block} (h : k.Inv) : (vsync k).2.Inv := by
  unfold Machine.vsync
  split
  · exact h.cursorReset.evalRow 0
  · exact h.evalRow 0

/-- R41, R244: the output write stays inside the output buffer. -/
theorem writePixel_keeps {k : Block} (c : Colour) (hw : k.display.wf) (hi : k.display.Within) :
    (writePixel c k).display.wf ∧ (writePixel c k).display.Within := by
  by_cases hin : k.col.toNat < 240 ∧ k.dstRow.toNat < 320
  · rw [writePixel_inside c hin.1 hin.2]
    exact putDisplay_keeps _ _ _ hw hi hin.1 hin.2
  · rw [writePixel_outside c (by omega)]
    exact ⟨hw, hi⟩

theorem Block.Inv.refreshActive {k : Block} (h : k.Inv) (n : Nat) : (refreshActive n k).2.Inv := by
  obtain ⟨hwf, hwithin⟩ := writePixel_keeps (pixelColour k n) h.displayWf h.displayWithin
  rw [refreshActive_shape]
  exact { h with displayWf := hwf, displayWithin := hwithin, serial := h.serial }

theorem Memory.within_nil : Memory.Within [] := by simp [Memory.Within]

theorem Memory.noAlpha_nil : Memory.NoAlpha [] := by simp [Memory.NoAlpha]

/-- R340, R341: the block after a power-on reset. -/
theorem powerOnBlock_inv : powerOnBlock.Inv where
  fifo := .inl rfl
  frameWf := Memory.wf_nil
  displayWf := Memory.wf_nil
  frameWithin := Memory.within_nil
  displayWithin := Memory.within_nil
  frameNoAlpha := Memory.noAlpha_nil
  row := Nat.zero_le _
  dstRow := Nat.zero_le _
  sentinel := nofun
  view := Nat.zero_le _
  lut := rfl
  cswTail := ⟨rfl, rfl, rfl⟩
  cswIndex := rfl
  serial := serialOk_of_param_zero rfl

/-! ### From the block to the state -/

section

variable {s t : State}

/-- An operation that leaves the stream alone keeps the invariant when it does so for the block. -/
theorem onBlock_keepsInv {f : Block → Block} (hf : ∀ k : Block, k.Inv → (f k).Inv) (hs : s.Inv)
    (h : onBlock f s = .next t) : t.Inv := by
  rw [onBlock_next h]
  exact ⟨hf _ hs.1, hs.2⟩

theorem onBlockChecked_keepsInv {f : Block → Except Fault Block} (hf : ∀ k k' : Block, k.Inv → f k = .ok k' → k'.Inv)
    (hs : s.Inv) (h : onBlockChecked f s = .next t) : t.Inv := by
  obtain ⟨k, hk, rfl⟩ := onBlockChecked_next h
  exact ⟨hf _ _ hs.1 hk, hs.2⟩

theorem returnByte_keepsInv {f : Block → Byte × Block} (hf : ∀ k : Block, k.Inv → (f k).2.Inv) (hs : s.Inv)
    (h : returnByte f s = .next t) : t.Inv := by
  rw [returnByte_next h]
  exact ⟨hf _ hs.1, hs.2⟩

theorem returnFlag_keepsInv {f : Block → Bool × Block} (hf : ∀ k : Block, k.Inv → (f k).2.Inv) (hs : s.Inv)
    (h : returnFlag f s = .next t) : t.Inv := by
  rw [returnFlag_next h]
  exact ⟨hf _ hs.1, hs.2⟩

/-! ### Each operation -/

theorem Block.Inv.writeReg {k : Block} (h : k.Inv) (i : Fin 24) (v : Byte) : (k.writeReg i v).Inv :=
  h.of_tracked rfl h.serial

theorem Block.Inv.msWrite {k : Block} (h : k.Inv) (v : Byte) : (msWrite v k).Inv := h.of_tracked rfl h.serial

theorem execDataWrite_keepsInv {x : Context} {v : Byte} (hs : s.Inv) (h : exec (decodeDataWrite x v) s = .next t) :
    t.Inv := by
  unfold decodeDataWrite at h
  split at h
  · exact onBlockChecked_keepsInv (fun _ _ hk => hk.lcdShift) hs h
  · split at h
    · split at h
      · exact onBlock_keepsInv (fun _ hk => hk.msWrite v) hs h
      · cases h
        exact hs
    · cases h

theorem execDataRead_keepsInv {x : Context} {peek : Bool} (hs : s.Inv) (h : exec (decodeDataRead x peek) s = .next t) :
    t.Inv := by
  unfold decodeDataRead at h
  split at h
  · exact returnByte_keepsInv (fun _ hk => hk) hs h
  · split at h
    · split at h
      · exact returnByte_keepsInv (fun _ hk => hk.msRead) hs h
      · exact returnByte_keepsInv (fun _ hk => hk) hs h
    · cases h

theorem execPortWrite_keepsInv {x : Context} {port : U16} {v : Byte} (hs : s.Inv)
    (h : exec (decodePortWrite x port v) s = .next t) : t.Inv := by
  unfold decodePortWrite at h
  split_ifs at h
  · exact onBlock_keepsInv (fun _ hk => hk.writeReg _ v) hs h
  · exact onBlock_keepsInv (fun _ hk => hk.writeReg _ v) hs h
  · exact execDataWrite_keepsInv hs h
  · cases h

theorem execPortRead_keepsInv {x : Context} {port : U16} {peek : Bool} (hs : s.Inv)
    (h : exec (decodePortRead x port peek) s = .next t) : t.Inv := by
  unfold decodePortRead at h
  split_ifs at h
  · exact returnByte_keepsInv (fun _ hk => hk) hs h
  · exact returnByte_keepsInv (fun _ hk => hk) hs h
  · exact execDataRead_keepsInv hs h
  · cases h

theorem execRefresh_keepsInv (hs : s.Inv) (h : execRefresh s = .next t) : t.Inv := by
  unfold execRefresh at h
  split at h
  · exact returnFlag_keepsInv (fun _ hk => hk) hs h
  · exact returnFlag_keepsInv (s := { s with draws := drawsAfter s.block s.draws }) (fun _ hk => hk.refreshActive _) hs h

/-- R304: the record a put leaves is the block, or the one that was there. -/
theorem execSave_keepsInv {ioOk : Bool} (hs : s.Inv) (h : execSave ioOk s = .next t) : t.Inv := by
  obtain ⟨hblock, hstream⟩ := hs
  cases h
  refine ⟨hblock, ?_⟩
  unfold streamAfterSave
  split
  · rintro record ⟨rfl⟩
    exact hblock
  · exact hstream

/-- R305: the record a get delivers is the one the stream held. -/
theorem execRestore_keepsInv {ioOk : Bool} (hs : s.Inv) (h : execRestore ioOk s = .next t) : t.Inv := by
  obtain ⟨hblock, hstream⟩ := hs
  unfold execRestore at h
  split at h
  · rename_i record hr
    cases h
    refine ⟨hstream record ?_, hstream⟩
    unfold streamRecord at hr
    split at hr
    · exact hr
    · cases hr
  · cases h
    exact ⟨hblock, hstream⟩

/-- Every operation, decoded in the state's own context, keeps the invariant. -/
theorem exec_decodeOp_keepsInv {op : Op} (hs : s.Inv) (h : exec (decodeOp s.context op) s = .next t) : t.Inv := by
  cases op with
  | portWrite port v => exact execPortWrite_keepsInv hs h
  | portRead port peek => exact execPortRead_keepsInv hs h
  | frame f =>
    have hf : onBlockChecked (runFrame f) s = .next t := exec_decodeFrame f s ▸ h
    exact onBlockChecked_keepsInv (fun _ _ hk => hk.runFrame) hs hf
  | hsync => exact returnFlag_keepsInv (fun k hk => hk.evalRow (k.row + 1)) hs h
  | vsync => exact returnFlag_keepsInv (fun _ hk => hk.vsync) hs h
  | refreshPixel => exact execRefresh_keepsInv hs h
  | pixel18 r g b => exact onBlockChecked_keepsInv (fun _ _ hk => hk.pixel18) hs h
  | pixel16 r g b => exact onBlockChecked_keepsInv (fun _ _ hk => hk.pixel16) hs h
  | pixel12 r g b => exact onBlockChecked_keepsInv (fun _ _ hk => hk.pixel12) hs h
  | powerOnReset =>
    cases h
    exact ⟨powerOnBlock_inv, hs.2⟩
  | setDeviceType d =>
    cases h
    exact hs
  | setRevision r =>
    cases h
    exact hs
  | save ok => exact execSave_keepsInv hs h
  | restore ok => exact execRestore_keepsInv hs h

end

/-- Settles O60, by the operation that is due: each keeps the invariant of the block and of the stream's record. -/
theorem stepKeepsTheInvariant : Obligations.StepKeepsTheInvariant := by
  intro s t hs h
  unfold step at h
  split at h
  · cases h
    exact hs
  · rename_i op rest _
    exact exec_decodeOp_keepsInv (s := s.taken rest) hs h

end Sys2Proof.Machine
end

section
/-! Who writes the mode flags, `mac` and `tear` (O56): one case analysis of the instructions says which of them each can write. -/

namespace Sys2Proof.Machine

/-- R25, R329: the instructions that a mode flag has of its own. -/
def ModeWriter (i : Instr) : ModeFlag → Prop
  | .sleep => i = .slpin ∨ i = .slpout
  | .off => i = .dispoff ∨ i = .dispon
  | .invert => i = .invon ∨ i = .invoff
  | .idle => i = .idmon ∨ i = .idmoff
  | .partialOn => i = .ptlon ∨ i = .noron
  | .scroll => i = .noron ∨ ∃ b, i = .vscrsaddParam b
  | .blank => i = .hsync ∨ i = .vsync
  | .ignore => i = .hsync ∨ i = .vsync ∨ i = .refresh

/-- Between two blocks the instruction has written no flag but its own. -/
structure WritesItsFlags (i : Instr) (k k' : Block) : Prop where
  mode : ∀ f, k'.modeFlag f ≠ k.modeFlag f → ModeWriter i f
  mac : k'.mac ≠ k.mac → ∃ b, i = .madctlParam b
  tear : k'.tear ≠ k.tear → i = .teon ∨ i = .teoff

/-- The elements whose writers are asked for. -/
def Block.flags (k : Block) : Byte × Byte × Bool := (k.mode, k.mac, k.tear)

section

variable {i : Instr} {k k₁ k' : Block}

theorem WritesItsFlags.of_kept (h : k'.flags = k.flags) : WritesItsFlags i k k' := by
  simp only [Block.flags, Prod.mk.injEq] at h
  obtain ⟨hmode, hmac, htear⟩ := h
  exact ⟨fun f hf => absurd (by rw [Block.modeFlag, hmode, Block.modeFlag]) hf, absurd hmac, absurd htear⟩

/-- A flag that two updates have changed, one of them has changed. -/
theorem WritesItsFlags.trans (h₁ : WritesItsFlags i k k₁) (h₂ : WritesItsFlags i k₁ k') : WritesItsFlags i k k' where
  mode f hf := by
    by_cases he : k₁.modeFlag f = k.modeFlag f
    · exact h₂.mode f (he ▸ hf)
    · exact h₁.mode f he
  mac hf := by
    by_cases he : k₁.mac = k.mac
    · exact h₂.mac (he ▸ hf)
    · exact h₁.mac he
  tear hf := by
    by_cases he : k₁.tear = k.tear
    · exact h₂.tear (he ▸ hf)
    · exact h₁.tear he

/-- An instruction may write a mode flag when it is one of the flag's own. -/
theorem writesItsFlags_setMode (k : Block) {f : ModeFlag} (b : Bool) (hw : ModeWriter i f) :
    WritesItsFlags i k (k.setMode f b) where
  mode g hg := by
    rw [Block.setMode_modeFlag] at hg
    split at hg
    · rename_i he
      exact he ▸ hw
    · exact absurd rfl hg
  mac h := absurd rfl h
  tear h := absurd rfl h

/-- An update that leaves the flags as writing one mode flag does. -/
theorem WritesItsFlags.of_setMode (f : ModeFlag) (b : Bool) (hw : ModeWriter i f) (h : k'.flags = (k.setMode f b).flags) :
    WritesItsFlags i k k' :=
  (writesItsFlags_setMode k b hw).trans (.of_kept h)

end

/-! ### The operations that several instructions share -/

theorem cursorReset_flags (k : Block) : (cursorReset k).flags = k.flags := by
  rw [cursorReset_eq]
  rfl

theorem storePixel_flags (r g b : Byte) (k : Block) : (storePixel r g b k).flags = k.flags := by
  rw [storePixel_shape]
  rfl

theorem pixelParamFrame_flags {b : Byte} {k k' : Block} (h : pixelParamFrame b k = .ok k') : k'.flags = k.flags := by
  obtain ⟨k₁, hk, rfl⟩ := pixelParamFrame_next h
  rw [memoryWriteByte_shape hk]
  rfl

theorem msRead_flags (k : Block) : (msRead k).2.flags = k.flags := by
  unfold msRead
  split
  · rfl
  · split <;> simp only [Block.flags, msClearAccumulator, msBuildStatus]

/-- R181: a scroll-start byte leaves the flags alone or sets SCROLL. -/
theorem vscrsaddEffect_flags (b : Byte) (k : Block) :
    (vscrsaddEffect b k).flags = k.flags ∨ (vscrsaddEffect b k).flags = (k.setMode .scroll true).flags := by
  unfold vscrsaddEffect
  split
  · exact .inr rfl
  · exact .inl rfl

/-- R240: a refresh leaves the flags alone or sets IGNORE. -/
theorem refreshActive_flags (n : Nat) (k : Block) :
    (refreshActive n k).2.flags = k.flags ∨ (refreshActive n k).2.flags = (k.setMode .ignore true).flags := by
  rw [refreshActive_shape]
  by_cases hcol : (stepColumn k.col k.colDir).toNat ≤ 239
  · left
    simp [Block.flags, hcol]
  · right
    simp [Block.flags, hcol, putBit, modeBit]

/-- R211, R212: a row evaluation writes IGNORE, and BLANK for a row that is not past the last. -/
theorem writesItsFlags_evalRow {i : Instr} (hblank : ModeWriter i .blank) (hignore : ModeWriter i .ignore) (r : U16)
    (k : Block) : WritesItsFlags i k (evalRow r k).2 := by
  unfold evalRow
  split
  · exact writesItsFlags_setMode k true hignore
  · exact ((writesItsFlags_setMode k false hignore).trans (writesItsFlags_setMode _ _ hblank)).trans (.of_kept rfl)

theorem writesItsFlags_vsync (k : Block) : WritesItsFlags .vsync k (vsync k).2 := by
  refine WritesItsFlags.trans (.of_kept ?_) (writesItsFlags_evalRow (.inr rfl) (.inr (.inl rfl)) 0 _)
  split
  · exact cursorReset_flags k
  · rfl

theorem writesItsFlags_refresh {s t : State} (h : execRefresh s = .next t) : WritesItsFlags .refresh s.block t.block := by
  unfold execRefresh at h
  split at h <;> rw [returnFlag_next h]
  · exact .of_kept rfl
  · rcases refreshActive_flags s.draws s.block with he | he
    · exact .of_kept he
    · exact .of_setMode .ignore true (.inr (.inr rfl)) he

/-! ### Each instruction -/

/-- R25, R26, R42, R329: but for the four kinds of exception, an instruction writes no flag but its own. -/
theorem exec_writesItsFlags {i : Instr} {s t : State} (h : exec i s = .next t) (hswreset : i ≠ .swreset) (hreset : i ≠ .reset)
    (hrestore : ∀ ok, i ≠ .restore ok) (houtLcd : ∀ v, i ≠ .outLcd v) : WritesItsFlags i s.block t.block := by
  cases i with
  | swreset => exact absurd rfl hswreset
  | reset => exact absurd rfl hreset
  | restore ok => exact absurd rfl (hrestore ok)
  | outLcd v => exact absurd rfl (houtLcd v)
  | outRouteOther | inRouteOther | portAbove => cases h
  | slpin => cases h; exact .of_setMode .sleep true (.inl rfl) rfl
  | slpout => cases h; exact .of_setMode .sleep false (.inr rfl) rfl
  | dispoff => cases h; exact .of_setMode .off true (.inl rfl) rfl
  | dispon => cases h; exact .of_setMode .off false (.inr rfl) rfl
  | invon => cases h; exact .of_setMode .invert true (.inl rfl) rfl
  | invoff => cases h; exact .of_setMode .invert false (.inr rfl) rfl
  | idmon => cases h; exact .of_setMode .idle true (.inl rfl) rfl
  | idmoff => cases h; exact .of_setMode .idle false (.inr rfl) rfl
  | ptlon => cases h; exact .of_setMode .partialOn true (.inl rfl) rfl
  | noron =>
    cases h
    have hpartial : WritesItsFlags .noron s.block (s.block.setMode .partialOn false) :=
      .of_setMode .partialOn false (.inr rfl) rfl
    exact hpartial.trans (.of_setMode .scroll false (.inl rfl) rfl)
  | vscrsaddParam b =>
    cases h
    rcases vscrsaddEffect_flags b s.block with he | he
    · exact .of_kept he
    · exact .of_setMode .scroll true (.inr ⟨b, rfl⟩) he
  | hsync => cases h; exact writesItsFlags_evalRow (.inl rfl) (.inl rfl) _ _
  | vsync => cases h; exact writesItsFlags_vsync _
  | refresh => exact writesItsFlags_refresh h
  | madctlParam b =>
    cases h
    rw [paramFrame, madctlEffect_shape]
    exact ⟨fun _ hf => absurd rfl hf, fun _ => ⟨b, rfl⟩, absurd rfl⟩
  | teon => cases h; exact ⟨fun _ hf => absurd rfl hf, absurd rfl, fun _ => .inl rfl⟩
  | teoff => cases h; exact ⟨fun _ hf => absurd rfl hf, absurd rfl, fun _ => .inr rfl⟩
  | ramwr => cases h; exact .of_kept (cursorReset_flags _)
  | ramwrParam b | ramwrcParam b =>
    obtain ⟨k, hk, rfl⟩ := onBlockChecked_next h
    exact .of_kept (pixelParamFrame_flags hk)
  | pix18 r g b =>
    obtain ⟨k, hk, rfl⟩ := onBlockChecked_next h
    rw [pixel18_stores hk]
    exact .of_kept (storePixel_flags _ _ _ _)
  | pix16 r g b =>
    obtain ⟨k, hk, rfl⟩ := onBlockChecked_next h
    obtain ⟨x, y, z, rfl⟩ := pixel16_stores hk
    exact .of_kept (storePixel_flags x y z _)
  | pix12 r g b =>
    obtain ⟨k, hk, rfl⟩ := onBlockChecked_next h
    obtain ⟨x, y, z, rfl⟩ := pixel12_stores hk
    exact .of_kept (storePixel_flags x y z _)
  | inMassStorage peek => cases h; exact .of_kept (msRead_flags _)
  | casetParam b => cases h; rw [paramFrame, casetEffect_shape]; exact .of_kept rfl
  | rasetParam b => cases h; rw [paramFrame, rasetEffect_shape]; exact .of_kept rfl
  | ptlarParam b => cases h; rw [paramFrame, ptlarEffect_shape]; exact .of_kept rfl
  | vscrdefParam b => cases h; rw [paramFrame, vscrdefEffect_shape]; exact .of_kept rfl
  | colmodParam b => cases h; rw [paramFrame, colmodEffect_shape]; exact .of_kept rfl
  | ramctrlParam b => cases h; rw [paramFrame, ramctrlEffect_shape]; exact .of_kept rfl
  | gamsetParam b => cases h; rw [paramFrame, gamsetEffect_shape]; exact .of_kept rfl
  | pvgamctrlParam b => cases h; rw [paramFrame, pvgamctrlEffect_shape]; exact .of_kept rfl
  | nvgamctrlParam b => cases h; rw [paramFrame, nvgamctrlEffect_shape]; exact .of_kept rfl
  | outRegsLow | outRegsHigh | inRegsLow | inRegsHigh | outMassStorage | outMassStorageAbsent | inLcd | inMassStorageAbsent | nop
    | gamset | caset | raset | ptlar | vscrdef | madctl | vscrsadd | colmod | ramwrc | ramctrl | pvgamctrl | nvgamctrl
    | unassigned | otherParam | setdev | setrev | save =>
    cases h
    exact .of_kept rfl

/-- Settles O56, by the case analysis of `exec_writesItsFlags`. -/
theorem flagsHaveTheirWriters : Obligations.FlagsHaveTheirWriters := by
  intro i s t h hswreset hreset hrestore houtLcd
  obtain ⟨hmode, hmac, htear⟩ := exec_writesItsFlags h hswreset hreset hrestore houtLcd
  exact ⟨hmode .sleep, hmode .off, hmode .invert, hmode .idle, hmode .partialOn, hmode .scroll, hmode .blank,
    hmode .ignore, hmac, htear⟩

end Sys2Proof.Machine
end

section
/-! Steps run the operation that is next (O5, O6). -/

namespace Sys2Proof.Machine

/-- R83, R93: the port writes of a frame, as numbers. -/
theorem frameWrites_eq (f : U9) :
    frameWrites f = [.portWrite 0x18 (BitVec.ofNat 8 (f.toNat / 64)), .portWrite 0x18 (BitVec.ofNat 8 (f.toNat / 8 % 8)),
      .portWrite 0x18 (BitVec.ofNat 8 (f.toNat % 8))] := by
  have hwrites : ∀ f : U9, frameWrite0 f = BitVec.ofNat 8 (f.toNat / 64) ∧
      frameWrite1 f = BitVec.ofNat 8 (f.toNat / 8 % 8) ∧ frameWrite2 f = BitVec.ofNat 8 (f.toNat % 8) := by decide
  obtain ⟨h0, h1, h2⟩ := hwrites f
  rw [frameWrites, h0, h1, h2]

/-- Settles O5: the step takes what is due, and a frame that is not ready is due as its writes. -/
theorem stepRunsTheDecodedInstruction : Obligations.StepRunsTheDecodedInstruction := by
  refine ⟨fun s op rest hpending hready => step_cons hpending hready, fun s f rest hpending hready => ?_,
    fun s hpending => step_nil hpending⟩
  rw [step_frame_unready hpending hready, frameWrites_eq]

/-- Placing a table word puts its operation at the head of the list and makes the block ready for it. -/
theorem State.withFetchWord_ok (s : State) {nbits w : Nat} {op : Op} (h : decodeTable nbits w = .ok op) :
    s.withFetchWord nbits w = { s with pending := op :: s.pending, block := s.block.madeReadyFor op } := by
  simp [State.withFetchWord, h]

/-- A step after a table word is placed runs its operation in a block that is ready for it. -/
theorem step_withFetchWord (s : State) {nbits w : Nat} {op : Op} (h : decodeTable nbits w = .ok op) :
    step (s.withFetchWord nbits w) =
      exec (decodeOp { s with block := s.block.madeReadyFor op }.context op)
        { s with result := none, block := s.block.madeReadyFor op } := by
  rw [State.withFetchWord_ok s h, step_cons rfl (s.block.madeReadyFor_ready op)]
  rfl

/-- Only for a frame does placing a word change the block. -/
theorem Block.madeReadyFor_of_not_frame (k : Block) {op : Op} (h : ∀ f, op ≠ .frame f) : k.madeReadyFor op = k := by
  unfold Block.madeReadyFor
  split
  · exact absurd rfl (h _)
  · rfl

theorem decodeTableWord_eq_some {nbits w : Nat} {i : Instr} (h : decodeTableWord nbits w = some i) :
    ∃ op, decodeTable nbits w = .ok op ∧ decodeOp resetContext op = i := by
  unfold decodeTableWord at h
  split at h
  · rename_i op hop
    exact ⟨op, hop, Option.some.inj h⟩
  · cases h

/-- Settles O6: the step runs the placed operation, and after reset the state's context is the decoder's. -/
theorem placedWordRunsNext : Obligations.PlacedWordRunsNext := by
  refine ⟨fun s nbits w op hop hframe => ?_, fun s nbits w f hop => ?_, fun nbits w i hi => ?_⟩
  · rw [step_withFetchWord s hop, Block.madeReadyFor_of_not_frame _ hframe]
  · rw [step_withFetchWord s hop]
    rfl
  · obtain ⟨op, hop, rfl⟩ := decodeTableWord_eq_some hi
    have hreset : State.reset.block.madeReadyFor op = State.reset.block := Block.madeReadyFor_reset op
    rw [step_withFetchWord _ hop, hreset]
    rfl

end Sys2Proof.Machine
end

section
/-! What no rule reads influences nothing (O58). Erasing the unread elements before an operation makes no difference to what is
left when they are erased after it: so each block operation, each way of ending a meaning, each operation of the agents but
SAVE, and the step. -/

namespace Sys2Proof.Machine

/-! ### Erasure -/

/-- The block part of `State.unreadErased`. -/
def Block.unreadErased (k : Block) : Block :=
  { k with
    scrollArea := 0, gamma := 0, gammaTable0 := Vector.replicate 16 0, gammaTable1 := Vector.replicate 16 0,
    display := [], tear := false, csw := Vector.replicate 16 0, cswIndex := 0 }

theorem State.unreadErased_eq (s : State) :
    s.unreadErased = { s with deviceType := .variantA, block := s.block.unreadErased } := rfl

section

variable (k : Block)

@[simp] theorem Block.unreadErased_cmd : k.unreadErased.cmd = k.cmd := rfl
@[simp] theorem Block.unreadErased_fifo : k.unreadErased.fifo = k.fifo := rfl
@[simp] theorem Block.unreadErased_param : k.unreadErased.param = k.param := rfl
@[simp] theorem Block.unreadErased_ifBpp : k.unreadErased.ifBpp = k.ifBpp := rfl
@[simp] theorem Block.unreadErased_dataLength : k.unreadErased.dataLength = k.dataLength := rfl
@[simp] theorem Block.unreadErased_configOnly : k.unreadErased.configOnly = k.configOnly := rfl
@[simp] theorem Block.unreadErased_macFlag (f : MacFlag) : k.unreadErased.macFlag f = k.macFlag f := rfl
@[simp] theorem Block.unreadErased_modeFlag (f : ModeFlag) : k.unreadErased.modeFlag f = k.modeFlag f := rfl

end

/-- An outcome with the unread elements of its next state erased. -/
def Outcome.unreadErased : Outcome → Outcome
  | .next t => .next t.unreadErased
  | .fault e => .fault e
  | .refused r => .refused r

theorem Outcome.agreeOnRead_iff (o p : Outcome) :
    Outcome.AgreeOnRead o p ↔ Outcome.unreadErased o = Outcome.unreadErased p := by
  cases o <;> cases p <;> simp [Outcome.AgreeOnRead, Outcome.unreadErased]

/-- A block operation neither reads the unread elements nor lets them into the others. -/
def IgnoresUnread (f : Block → Block) : Prop := ∀ k, (f k).unreadErased = (f k.unreadErased).unreadErased

/-- The same of an operation that may fault: the faults agree too. -/
def CheckedIgnoresUnread (f : Block → Except Fault Block) : Prop :=
  ∀ k, (f k).map Block.unreadErased = (f k.unreadErased).map Block.unreadErased

/-- The same of an operation that returns a value: the values agree too. -/
def ReturnIgnoresUnread {α : Type} (f : Block → α × Block) : Prop :=
  ∀ k, (f k).map id Block.unreadErased = (f k.unreadErased).map id Block.unreadErased

theorem IgnoresUnread.id : IgnoresUnread fun k => k := fun _ => rfl

/-- What the first operation lets into the unread elements, the second does not read. -/
theorem IgnoresUnread.comp {f g : Block → Block} (hg : IgnoresUnread g) (hf : IgnoresUnread f) :
    IgnoresUnread fun k => g (f k) := by
  intro k
  rw [hg (f k), hf k, ← hg]

theorem ReturnIgnoresUnread.comp {α : Type} {f : Block → Block} {g : Block → α × Block} (hg : ReturnIgnoresUnread g)
    (hf : IgnoresUnread f) : ReturnIgnoresUnread fun k => g (f k) := by
  intro k
  rw [hg (f k), hf k, ← hg]

/-- A choice by a test that reads no unread element. -/
theorem IgnoresUnread.ite {c : Block → Prop} [DecidablePred c] {f g : Block → Block} (hc : ∀ k, c k.unreadErased ↔ c k)
    (hf : IgnoresUnread f) (hg : IgnoresUnread g) : IgnoresUnread fun k => if c k then f k else g k := by
  intro k
  by_cases h : c k
  · simpa [h, hc k] using hf k
  · simpa [h, hc k] using hg k

theorem CheckedIgnoresUnread.ok {f : Block → Block} (hf : IgnoresUnread f) : CheckedIgnoresUnread fun k => .ok (f k) :=
  fun k => congrArg Except.ok (hf k)

/-- An operation that may fault, then one that does not. -/
theorem CheckedIgnoresUnread.map {f : Block → Except Fault Block} {g : Block → Block} (hf : CheckedIgnoresUnread f)
    (hg : IgnoresUnread g) : CheckedIgnoresUnread fun k => (f k).map g := by
  have herase (x : Except Fault Block) :
      (x.map g).map Block.unreadErased = (x.map Block.unreadErased).map fun k => (g k).unreadErased := by
    cases x with
    | ok k => exact congrArg Except.ok (hg k)
    | error e => rfl
  intro k
  rw [herase, hf k, ← herase]

/-! ### The cursor and the pixel entry points -/

theorem cursorReset_ignoresUnread : IgnoresUnread cursorReset := by
  intro k
  rw [cursorReset_eq, cursorReset_eq]
  rfl

theorem setAxes_ignoresUnread {fast slow : Block → U9} (hfast : ∀ k, fast k.unreadErased = fast k)
    (hslow : ∀ k, slow k.unreadErased = slow k) : IgnoresUnread fun k => setAxes k (fast k) (slow k) := by
  intro k
  beta_reduce
  rw [hfast, hslow]
  unfold setAxes
  rw [Block.unreadErased_macFlag]
  split <;> rfl

theorem cursorAdvance_ignoresUnread : IgnoresUnread cursorAdvance :=
  .ite (fun _ => Iff.rfl)
    (.ite (fun _ => Iff.rfl) (fun _ => rfl) (setAxes_ignoresUnread (fun _ => rfl) fun _ => rfl))
    (setAxes_ignoresUnread (fun _ => rfl) fun _ => rfl)

theorem storePixel_ignoresUnread (r g b : Byte) : IgnoresUnread (storePixel r g b) :=
  have hput : IgnoresUnread fun k => if cursorInGram k then k.putFrame k.rowReg.toNat k.colReg.toNat r g b else k :=
    .ite (fun _ => Iff.rfl) (fun _ => rfl) .id
  .ite (fun _ => Iff.rfl) .id (cursorAdvance_ignoresUnread.comp hput)

/-- An entry point checks its operands, whatever the block, and stores. -/
theorem pixel18_ignoresUnread (r g b : Byte) : CheckedIgnoresUnread (pixel18 r g b) := by
  intro k
  unfold pixel18
  split
  · exact congrArg Except.ok (storePixel_ignoresUnread _ _ _ k)
  · rfl

theorem pixel16_ignoresUnread (r g b : Byte) : CheckedIgnoresUnread (pixel16 r g b) := by
  intro k
  unfold pixel16
  split
  · exact congrArg Except.ok (storePixel_ignoresUnread _ _ _ k)
  · rfl

theorem pixel12_ignoresUnread (r g b : Byte) : CheckedIgnoresUnread (pixel12 r g b) := by
  intro k
  unfold pixel12
  split
  · exact congrArg Except.ok (storePixel_ignoresUnread _ _ _ k)
  · rfl

/-! ### Serial pixel bytes -/

theorem demux18_ignoresUnread (b : Byte) (phase : Nat) : CheckedIgnoresUnread (demux18 b phase) := by
  intro k
  unfold demux18
  split
  · rfl
  · rfl
  · exact pixel18_ignoresUnread _ _ _ { k with ifBlue := channel18 b }

theorem demux16_ignoresUnread (b : Byte) (phase : Nat) : CheckedIgnoresUnread (demux16 b phase) := by
  intro k
  unfold demux16
  split
  · rfl
  · exact pixel16_ignoresUnread _ _ _ { k with ifGreen := k.ifGreen ||| greenLow16 b, ifBlue := blue16 b }

/-- R233: the second byte's pixel and its latch, as one after the other. -/
theorem demux12_one (b : Byte) (k : Block) :
    demux12 b 1 k = (pixel12 k.ifRed k.ifGreen (highNibble b) { k with ifBlue := highNibble b }).map
      fun k' => { k' with ifRed := lowNibble b } := by
  unfold demux12
  cases pixel12 k.ifRed k.ifGreen (highNibble b) { k with ifBlue := highNibble b } <;> rfl

theorem demux12_ignoresUnread (b : Byte) (phase : Nat) : CheckedIgnoresUnread (demux12 b phase) := by
  intro k
  match phase with
  | 0 => rfl
  | 1 =>
    rw [demux12_one, demux12_one]
    exact (pixel12_ignoresUnread _ _ _).map (g := fun k' => { k' with ifRed := lowNibble b }) (fun _ => rfl)
      { k with ifBlue := highNibble b }
  | _ + 2 => exact pixel12_ignoresUnread _ _ _ { k with ifGreen := highNibble b, ifBlue := lowNibble b }

theorem serialPixelByte_ignoresUnread (b : Byte) : CheckedIgnoresUnread (serialPixelByte b) := by
  intro k
  unfold serialPixelByte
  rw [Block.unreadErased_ifBpp, Block.unreadErased_param]
  split
  · exact demux18_ignoresUnread b _ k
  · exact demux16_ignoresUnread b _ k
  · exact demux12_ignoresUnread b _ k
  · rfl

theorem memoryWriteByte_ignoresUnread (b : Byte) : CheckedIgnoresUnread (memoryWriteByte b) := by
  intro k
  unfold memoryWriteByte
  rw [Block.unreadErased_configOnly]
  split
  · rfl
  · exact serialPixelByte_ignoresUnread b k

/-- R170: a pixel parameter is the pixel byte and then the increment of R171. -/
theorem pixelParamFrame_eq_map (b : Byte) (k : Block) : pixelParamFrame b k = (memoryWriteByte b k).map advanceParam := by
  unfold pixelParamFrame
  cases memoryWriteByte b k <;> rfl

theorem pixelParamFrame_ignoresUnread (b : Byte) : CheckedIgnoresUnread (pixelParamFrame b) := by
  intro k
  rw [pixelParamFrame_eq_map, pixelParamFrame_eq_map]
  exact (memoryWriteByte_ignoresUnread b).map (g := advanceParam) (fun _ => rfl) k

/-! ### Frames -/

theorem commandFrame_ignoresUnread (op : Byte) : IgnoresUnread (commandFrame op) := by
  intro k
  unfold commandFrame
  split
  case h_14 => exact cursorReset_ignoresUnread (beginCommand 0x2C k)
  all_goals rfl

/-- R172: a window or scroll parameter picks its field by the parameter index, which is not erased. -/
theorem casetEffect_ignoresUnread (b : Byte) : IgnoresUnread (casetEffect b) := by
  intro k
  unfold casetEffect
  rw [Block.unreadErased_param]
  split <;> rfl

theorem rasetEffect_ignoresUnread (b : Byte) : IgnoresUnread (rasetEffect b) := by
  intro k
  unfold rasetEffect
  rw [Block.unreadErased_param]
  split <;> rfl

theorem ptlarEffect_ignoresUnread (b : Byte) : IgnoresUnread (ptlarEffect b) := by
  intro k
  unfold ptlarEffect
  rw [Block.unreadErased_param]
  split <;> rfl

theorem vscrdefEffect_ignoresUnread (b : Byte) : IgnoresUnread (vscrdefEffect b) := by
  intro k
  unfold vscrdefEffect
  rw [Block.unreadErased_param]
  split <;> rfl

theorem vscrsaddEffect_ignoresUnread (b : Byte) : IgnoresUnread (vscrsaddEffect b) := by
  intro k
  unfold vscrsaddEffect
  rw [Block.unreadErased_param]
  split <;> rfl

theorem madctlEffect_ignoresUnread (b : Byte) : IgnoresUnread (madctlEffect b) :=
  .ite (fun _ => Iff.rfl) (fun _ => rfl) .id

theorem colmodEffect_ignoresUnread (b : Byte) : IgnoresUnread (colmodEffect b) :=
  .ite (fun _ => Iff.rfl) (fun _ => rfl) .id

theorem ramctrlEffect_ignoresUnread (b : Byte) : IgnoresUnread (ramctrlEffect b) :=
  .ite (fun _ => Iff.rfl) (fun _ => rfl) .id

/-- R36: the gamma curve is erased, and nothing else is written. -/
theorem gamsetEffect_ignoresUnread (b : Byte) : IgnoresUnread (gamsetEffect b) := by
  intro k
  rw [gamsetEffect_shape b k, gamsetEffect_shape b k.unreadErased]
  rfl

/-- R37: so are the gamma tables. -/
theorem pvgamctrlEffect_ignoresUnread (b : Byte) : IgnoresUnread (pvgamctrlEffect b) := by
  intro k
  rw [pvgamctrlEffect_shape b k, pvgamctrlEffect_shape b k.unreadErased]
  rfl

theorem nvgamctrlEffect_ignoresUnread (b : Byte) : IgnoresUnread (nvgamctrlEffect b) := by
  intro k
  rw [nvgamctrlEffect_shape b k, nvgamctrlEffect_shape b k.unreadErased]
  rfl

/-- R170: a parameter frame is an effect and then the increment of R171. -/
theorem paramFrame_ignoresUnread {effect : Block → Block} (h : IgnoresUnread effect) :
    CheckedIgnoresUnread fun k => .ok (paramFrame effect k) :=
  .ok (IgnoresUnread.comp (g := advanceParam) (fun _ => rfl) h)

theorem parameterFrame_ignoresUnread (b : Byte) : CheckedIgnoresUnread (parameterFrame b) := by
  intro k
  unfold parameterFrame
  rw [Block.unreadErased_cmd]
  split
  · exact paramFrame_ignoresUnread (gamsetEffect_ignoresUnread b) k
  · exact paramFrame_ignoresUnread (casetEffect_ignoresUnread b) k
  · exact paramFrame_ignoresUnread (rasetEffect_ignoresUnread b) k
  · exact pixelParamFrame_ignoresUnread b k
  · exact paramFrame_ignoresUnread (ptlarEffect_ignoresUnread b) k
  · exact paramFrame_ignoresUnread (vscrdefEffect_ignoresUnread b) k
  · exact paramFrame_ignoresUnread (madctlEffect_ignoresUnread b) k
  · exact paramFrame_ignoresUnread (vscrsaddEffect_ignoresUnread b) k
  · exact paramFrame_ignoresUnread (colmodEffect_ignoresUnread b) k
  · exact pixelParamFrame_ignoresUnread b k
  · exact paramFrame_ignoresUnread (ramctrlEffect_ignoresUnread b) k
  · exact paramFrame_ignoresUnread (pvgamctrlEffect_ignoresUnread b) k
  · exact paramFrame_ignoresUnread (nvgamctrlEffect_ignoresUnread b) k
  · rfl

theorem runFrame_ignoresUnread (f : U9) : CheckedIgnoresUnread (runFrame f) := by
  intro k
  unfold runFrame
  split
  · exact parameterFrame_ignoresUnread _ k
  · exact congrArg Except.ok (commandFrame_ignoresUnread _ k)

theorem lcdShift_ignoresUnread (v : Byte) : CheckedIgnoresUnread (lcdShift v) := by
  intro k
  unfold lcdShift
  rw [Block.unreadErased_fifo]
  split
  · exact runFrame_ignoresUnread _ { k with fifo := 1 }
  · rfl

/-! ### The responder, the scan and refresh -/

/-- R288: a status build fills the erased status buffer, and reads of it only its own last bytes. -/
theorem msBuildStatus_ignoresUnread : IgnoresUnread msBuildStatus := fun _ => rfl

theorem msRead_ignoresUnread : ReturnIgnoresUnread msRead := by
  have hclear : IgnoresUnread fun k => msClearAccumulator (if hasSignature k then msBuildStatus k else k) :=
    IgnoresUnread.comp (g := msClearAccumulator) (fun _ => rfl) (.ite (fun _ => Iff.rfl) msBuildStatus_ignoresUnread .id)
  intro k
  unfold msRead
  rw [Block.unreadErased_dataLength]
  split
  · rfl
  · exact congrArg (Prod.mk 0) (hclear k)

theorem evalRow_ignoresUnread (t : U16) : ReturnIgnoresUnread (evalRow t) := by
  intro k
  unfold evalRow
  split <;> rfl

theorem hsync_ignoresUnread : ReturnIgnoresUnread hsync := fun k => evalRow_ignoresUnread (k.row + 1) k

theorem vsync_ignoresUnread : ReturnIgnoresUnread vsync :=
  have hcursor : IgnoresUnread fun k => if k.configOnly then cursorReset k else k :=
    .ite (fun _ => Iff.rfl) cursorReset_ignoresUnread .id
  (evalRow_ignoresUnread 0).comp hcursor

/-- R84: a refresh writes the erased output buffer and does not read it. -/
theorem refreshActive_ignoresUnread (n : Nat) : ReturnIgnoresUnread (refreshActive n) := by
  intro k
  rw [refreshActive_shape, refreshActive_shape]
  rfl

/-! ### From the block to the state -/

/-- A meaning neither reads the unread elements nor lets them into the others, the result or the stop. -/
def MeaningIgnoresUnread (m : State → Outcome) : Prop :=
  ∀ s, Outcome.unreadErased (m s) = Outcome.unreadErased (m s.unreadErased)

theorem onBlock_ignoresUnread {f : Block → Block} (hf : IgnoresUnread f) : MeaningIgnoresUnread (onBlock f) := by
  intro s
  simp only [onBlock, Outcome.unreadErased, State.unreadErased_eq, hf s.block]

theorem onBlockChecked_ignoresUnread {f : Block → Except Fault Block} (hf : CheckedIgnoresUnread f) :
    MeaningIgnoresUnread (onBlockChecked f) := by
  have hmeaning (s : State) : Outcome.unreadErased (onBlockChecked f s) =
      onBlockChecked (fun k => (f k).map Block.unreadErased) { s with deviceType := .variantA } := by
    unfold onBlockChecked
    dsimp only
    cases f s.block <;> rfl
  intro s
  rw [hmeaning, hmeaning]
  simp only [onBlockChecked, hf s.block]
  rfl

theorem ReturnIgnoresUnread.split {α : Type} {f : Block → α × Block} (hf : ReturnIgnoresUnread f) (k : Block) :
    (f k).1 = (f k.unreadErased).1 ∧ (f k).2.unreadErased = (f k.unreadErased).2.unreadErased :=
  Prod.mk.inj (hf k)

theorem returnByte_ignoresUnread {f : Block → Byte × Block} (hf : ReturnIgnoresUnread f) :
    MeaningIgnoresUnread (returnByte f) := by
  intro s
  obtain ⟨hvalue, hblock⟩ := hf.split s.block
  simp only [returnByte, Outcome.unreadErased, State.unreadErased_eq, hvalue, hblock]

theorem returnFlag_ignoresUnread {f : Block → Bool × Block} (hf : ReturnIgnoresUnread f) :
    MeaningIgnoresUnread (returnFlag f) := by
  intro s
  obtain ⟨hvalue, hblock⟩ := hf.split s.block
  simp only [returnFlag, Outcome.unreadErased, State.unreadErased_eq, hvalue, hblock]

/-! ### Each operation -/

theorem execDataWrite_ignoresUnread (x : Context) (v : Byte) : MeaningIgnoresUnread (exec (decodeDataWrite x v)) := by
  unfold decodeDataWrite
  split_ifs
  · exact onBlockChecked_ignoresUnread (lcdShift_ignoresUnread v)
  · exact onBlock_ignoresUnread (f := msWrite v) fun _ => rfl
  · exact fun _ => rfl
  · exact fun _ => rfl

theorem execDataRead_ignoresUnread (x : Context) (peek : Bool) : MeaningIgnoresUnread (exec (decodeDataRead x peek)) := by
  unfold decodeDataRead
  split_ifs
  · exact fun _ => rfl
  · exact returnByte_ignoresUnread msRead_ignoresUnread
  · exact fun _ => rfl
  · exact fun _ => rfl

theorem execPortWrite_ignoresUnread (x : Context) (port : U16) (v : Byte) :
    MeaningIgnoresUnread (exec (decodePortWrite x port v)) := by
  unfold decodePortWrite
  split_ifs
  · exact fun _ => rfl
  · exact fun _ => rfl
  · exact execDataWrite_ignoresUnread x v
  · exact fun _ => rfl

theorem execPortRead_ignoresUnread (x : Context) (port : U16) (peek : Bool) :
    MeaningIgnoresUnread (exec (decodePortRead x port peek)) := by
  unfold decodePortRead
  split_ifs
  · exact fun _ => rfl
  · exact fun _ => rfl
  · exact execDataRead_ignoresUnread x peek
  · exact fun _ => rfl

/-- R240: whether the line is ignored, and how many draws are made, is read from other elements. -/
theorem execRefresh_ignoresUnread : MeaningIgnoresUnread execRefresh := by
  intro s
  unfold execRefresh
  rw [State.unreadErased_eq, Block.unreadErased_modeFlag]
  split
  · rfl
  · exact returnFlag_ignoresUnread (refreshActive_ignoresUnread s.draws) { s with draws := drawsAfter s.block s.draws }

/-- R305: the record comes from the stream. -/
theorem execRestore_ignoresUnread (ioOk : Bool) : MeaningIgnoresUnread (execRestore ioOk) := by
  intro s
  unfold execRestore
  rw [show streamRecord ioOk s.unreadErased = streamRecord ioOk s from rfl]
  split <;> rfl

/-- Every operation but SAVE, decoded in the state's own context. -/
theorem exec_decodeOp_unreadErased {op : Op} (hsave : ∀ ok, op ≠ .save ok) (s : State) :
    Outcome.unreadErased (exec (decodeOp s.context op) s) =
      Outcome.unreadErased (exec (decodeOp s.context op) s.unreadErased) := by
  cases op with
  | portWrite port v => exact execPortWrite_ignoresUnread _ port v s
  | portRead port peek => exact execPortRead_ignoresUnread _ port peek s
  | frame f =>
    have hframe : exec (decodeFrame s.block.cmd f) s.unreadErased = onBlockChecked (runFrame f) s.unreadErased :=
      exec_decodeFrame f s.unreadErased
    have hrun := onBlockChecked_ignoresUnread (runFrame_ignoresUnread f) s
    rwa [← exec_decodeFrame, ← hframe] at hrun
  | hsync => exact returnFlag_ignoresUnread hsync_ignoresUnread s
  | vsync => exact returnFlag_ignoresUnread vsync_ignoresUnread s
  | refreshPixel => exact execRefresh_ignoresUnread s
  | pixel18 r g b => exact onBlockChecked_ignoresUnread (pixel18_ignoresUnread r g b) s
  | pixel16 r g b => exact onBlockChecked_ignoresUnread (pixel16_ignoresUnread r g b) s
  | pixel12 r g b => exact onBlockChecked_ignoresUnread (pixel12_ignoresUnread r g b) s
  | powerOnReset | setDeviceType | setRevision => rfl
  | save ok => exact absurd rfl (hsave ok)
  | restore ok => exact execRestore_ignoresUnread ok s

/-- R83: no operation but the one issued, and the writes of a frame, is due. -/
theorem Block.due_cons_ne_save {k : Block} {ops rest : List Op} {op : Op} (hdue : k.due ops = op :: rest)
    (hsave : ∀ ok, ops.head? ≠ some (.save ok)) (ok : Bool) : op ≠ .save ok := by
  rintro rfl
  unfold Block.due at hdue
  split at hdue
  · split at hdue <;> cases hdue
  · subst hdue
    exact hsave ok rfl

theorem step_ignoresUnread (s : State) (hsave : ∀ ok, s.pending.head? ≠ some (.save ok)) :
    Outcome.unreadErased (step s) = Outcome.unreadErased (step s.unreadErased) := by
  have hsame : s.unreadErased.block.due s.unreadErased.pending = s.block.due s.pending := rfl
  unfold step
  rw [hsame]
  split
  · rfl
  · rename_i op rest hdue
    exact exec_decodeOp_unreadErased (Block.due_cons_ne_save hdue hsave) (s.taken rest)

/-- Settles O58: both steps agree with the step of the one state that is left when the unread elements are erased. -/
theorem unreadElementsHaveNoEffect : Obligations.UnreadElementsHaveNoEffect := by
  intro s u hsame hsave
  have hpending : s.pending = u.pending := show s.unreadErased.pending = u.unreadErased.pending by rw [hsame]
  rw [Outcome.agreeOnRead_iff]
  calc Outcome.unreadErased (step s)
      = Outcome.unreadErased (step s.unreadErased) := step_ignoresUnread s hsave
    _ = Outcome.unreadErased (step u.unreadErased) := by rw [hsame]
    _ = Outcome.unreadErased (step u) := (step_ignoresUnread u (hpending ▸ hsave)).symm

end Sys2Proof.Machine
end

section
/-! The encodings (O1 to O4): decoding after encoding at each kind of row, and every operation as one row. -/

namespace Sys2Proof.Machine

/-! ### The fields of a port offset -/

/-- R90: an offset written from its low four bits names a register below 0x10. -/
theorem lowPort_fields : ∀ p : BitVec 4,
    (p.zeroExtend 16 : U16).toNat < 0x10 ∧ (p.zeroExtend 16 : U16).truncate 4 = p := by decide

/-- R90: an offset written from its low three bits names a register from 0x10 to 0x17. -/
theorem highPort_fields : ∀ p : BitVec 3,
    ¬ (0x10#16 ||| p.zeroExtend 16).toNat < 0x10 ∧ (0x10#16 ||| p.zeroExtend 16).toNat < 0x18 ∧
      (0x10#16 ||| p.zeroExtend 16).truncate 3 = p := by decide

theorem lowPort_eq {port : U16} (h : port.toNat < 0x10) : (port.truncate 4).zeroExtend 16 = port := by
  apply BitVec.eq_of_toNat_eq
  simp only [BitVec.truncate_eq_setWidth, BitVec.toNat_setWidth]
  omega

theorem highPort_eq {port : U16} (hlow : ¬ port.toNat < 0x10) (h : port.toNat < 0x18) :
    0x10#16 ||| (port.truncate 3).zeroExtend 16 = port := by
  have hwords : ∀ n < 8, 0x10#16 ||| ((BitVec.ofNat 16 (0x10 + n)).truncate 3).zeroExtend 16 = BitVec.ofNat 16 (0x10 + n) := by
    decide
  have hport : port = BitVec.ofNat 16 (0x10 + (port.toNat - 0x10)) := by
    rw [Nat.add_sub_cancel' (by omega), BitVec.ofNat_toNat, BitVec.setWidth_eq]
  rw [hport]
  exact hwords _ (by omega)

/-! ### Port accesses (R71, R90, R91) -/

section

variable (x : Context)

theorem decodePortWrite_low (p : BitVec 4) (v : Byte) : decodePortWrite x (p.zeroExtend 16) v = .outRegsLow p v := by
  obtain ⟨hlow, hfield⟩ := lowPort_fields p
  rw [decodePortWrite, if_pos hlow, hfield]

theorem decodePortRead_low (p : BitVec 4) (peek : Bool) : decodePortRead x (p.zeroExtend 16) peek = .inRegsLow p peek := by
  obtain ⟨hlow, hfield⟩ := lowPort_fields p
  rw [decodePortRead, if_pos hlow, hfield]

theorem decodePortWrite_high (p : BitVec 3) (v : Byte) :
    decodePortWrite x (0x10#16 ||| p.zeroExtend 16) v = .outRegsHigh p v := by
  obtain ⟨hlow, hhigh, hfield⟩ := highPort_fields p
  rw [decodePortWrite, if_neg hlow, if_pos hhigh, hfield]

theorem decodePortRead_high (p : BitVec 3) (peek : Bool) :
    decodePortRead x (0x10#16 ||| p.zeroExtend 16) peek = .inRegsHigh p peek := by
  obtain ⟨hlow, hhigh, hfield⟩ := highPort_fields p
  rw [decodePortRead, if_neg hlow, if_pos hhigh, hfield]

theorem decodePortWrite_data (v : Byte) : decodePortWrite x 0x18 v = decodeDataWrite x v := rfl

theorem decodePortRead_data (peek : Bool) : decodePortRead x 0x18 peek = decodeDataRead x peek := rfl

theorem decodePortWrite_above {port : U16} (h : 0x18 < port.toNat) (v : Byte) :
    decodePortWrite x port v = .portAbove port (.write v) := by
  rw [decodePortWrite, if_neg (by omega), if_neg (by omega), if_neg (by omega)]

theorem decodePortRead_above {port : U16} (h : 0x18 < port.toNat) (peek : Bool) :
    decodePortRead x port peek = .portAbove port (.read peek) := by
  rw [decodePortRead, if_neg (by omega), if_neg (by omega), if_neg (by omega)]

end

/-! ### Frames (R92, R95, R99) -/

theorem decodeFrame_commandFrameBits (cmd op : Byte) : decodeFrame cmd (commandFrameBits op) = decodeCommand op := by
  rw [decodeFrame, frameIsParameter_commandFrameBits, frameByte_commandFrameBits]
  rfl

theorem decodeFrame_parameterFrameBits (cmd b : Byte) : decodeFrame cmd (parameterFrameBits b) = decodeParameter cmd b := by
  rw [decodeFrame, frameIsParameter_parameterFrameBits, frameByte_parameterFrameBits]
  rfl

/-- R92: bit 8 says which of the two kinds a frame is, and the other bits are its byte. -/
theorem frame_eq_of_kind : ∀ f : U9,
    f = if frameIsParameter f then parameterFrameBits (frameByte f) else commandFrameBits (frameByte f) := by decide

/-- R157: an opcode that R95 does not list has no row of its own. -/
theorem decodeCommand_unassigned :
    ∀ op : Byte, (!assignedOpcodes.contains op) = true → decodeCommand op = .unassigned op := by decide

/-- R188: a command that R99 does not list has no parameter row of its own. -/
theorem decodeParameter_other {cmd : Byte} (h : (!parameterOpcodes.contains cmd) = true) (b : Byte) :
    decodeParameter cmd b = .otherParam b := by
  have hnumbers : ∀ cmd : Byte, (!parameterOpcodes.contains cmd) = true →
      cmd.toNat ∉ parameterOpcodes.map BitVec.toNat := by decide
  replace h := hnumbers cmd h
  unfold decodeParameter
  split
  case h_14 => rfl
  all_goals
    rename_i hcmd
    rw [hcmd] at h
    exact absurd (by decide) h

/-- Settles O1, by the rows: a port row by the fields of its offset and its context, a frame row by its opcode or its command,
a call by itself. -/
theorem decodeInvertsEncode : Obligations.DecodeInvertsEncode := by
  intro x i hwf hsel
  cases i with
  | outRegsLow p v => exact decodePortWrite_low x p v
  | outRegsHigh p v => exact decodePortWrite_high x p v
  | inRegsLow p peek => exact decodePortRead_low x p peek
  | inRegsHigh p peek => exact decodePortRead_high x p peek
  | outLcd | outMassStorage | outMassStorageAbsent | outRouteOther =>
    refine (decodePortWrite_data x _).trans ?_
    simp_all [Instr.selectedBy, decodeDataWrite]
  | inLcd | inMassStorage | inMassStorageAbsent | inRouteOther =>
    refine (decodePortRead_data x _).trans ?_
    simp_all [Instr.selectedBy, decodeDataRead]
  | portAbove port access =>
    have habove : 0x18 < port.toNat := of_decide_eq_true hwf
    cases access with
    | write v => exact decodePortWrite_above x habove v
    | read peek => exact decodePortRead_above x habove peek
  | unassigned op => exact (decodeFrame_commandFrameBits x.cmd op).trans (decodeCommand_unassigned op hwf)
  | casetParam b | rasetParam b | ptlarParam b | vscrdefParam b | ramwrParam b | ramwrcParam b | vscrsaddParam b | madctlParam b
    | colmodParam b | ramctrlParam b | gamsetParam b | pvgamctrlParam b | nvgamctrlParam b =>
    have hcmd : x.cmd = _ := eq_of_beq hsel
    refine (decodeFrame_parameterFrameBits x.cmd b).trans ?_
    rw [hcmd]
    rfl
  | otherParam b => exact (decodeFrame_parameterFrameBits x.cmd b).trans (decodeParameter_other hsel b)
  | _ => rfl

/-! ### Every operation as one row (R98, R129) -/

/-- In the context the instruction is a row, and the operation is how it is written. -/
structure RowOf (x : Context) (i : Instr) (op : Op) : Prop where
  wellFormed : i.wellFormed = true
  selected : i.selectedBy x = true
  encoded : encode i = op

theorem rowOf_decodeDataWrite (x : Context) (v : Byte) : RowOf x (decodeDataWrite x v) (.portWrite 0x18 v) := by
  unfold decodeDataWrite
  split_ifs with hlcd hms hrev
  · exact ⟨rfl, beq_iff_eq.mpr hlcd, rfl⟩
  · exact ⟨rfl, by simp [Instr.selectedBy, hms, hrev], rfl⟩
  · exact ⟨rfl, by simp [Instr.selectedBy, hms, hrev], rfl⟩
  · exact ⟨rfl, by simpa [Instr.selectedBy] using ⟨hlcd, hms⟩, rfl⟩

theorem rowOf_decodeDataRead (x : Context) (peek : Bool) : RowOf x (decodeDataRead x peek) (.portRead 0x18 peek) := by
  unfold decodeDataRead
  split_ifs with hlcd hms hrev
  · exact ⟨rfl, beq_iff_eq.mpr hlcd, rfl⟩
  · exact ⟨rfl, by simp [Instr.selectedBy, hms, hrev], rfl⟩
  · exact ⟨rfl, by simp [Instr.selectedBy, hms, hrev], rfl⟩
  · exact ⟨rfl, by simpa [Instr.selectedBy] using ⟨hlcd, hms⟩, rfl⟩

theorem rowOf_decodePortWrite (x : Context) (port : U16) (v : Byte) : RowOf x (decodePortWrite x port v) (.portWrite port v) := by
  unfold decodePortWrite
  split_ifs with hlow hhigh hdata
  · exact ⟨rfl, rfl, by rw [encode, lowPort_eq hlow]⟩
  · exact ⟨rfl, rfl, by rw [encode, highPort_eq hlow hhigh]⟩
  · rw [show port = 0x18 from BitVec.eq_of_toNat_eq hdata]
    exact rowOf_decodeDataWrite x v
  · exact ⟨decide_eq_true (by omega), rfl, rfl⟩

theorem rowOf_decodePortRead (x : Context) (port : U16) (peek : Bool) :
    RowOf x (decodePortRead x port peek) (.portRead port peek) := by
  unfold decodePortRead
  split_ifs with hlow hhigh hdata
  · exact ⟨rfl, rfl, by rw [encode, lowPort_eq hlow]⟩
  · exact ⟨rfl, rfl, by rw [encode, highPort_eq hlow hhigh]⟩
  · rw [show port = 0x18 from BitVec.eq_of_toNat_eq hdata]
    exact rowOf_decodeDataRead x peek
  · exact ⟨decide_eq_true (by omega), rfl, rfl⟩

theorem decodeCommand_wellFormed : ∀ op : Byte, (decodeCommand op).wellFormed = true := by decide

theorem encode_decodeCommand : ∀ op : Byte, encode (decodeCommand op) = .frame (commandFrameBits op) := by decide

/-- R94: a command row is selected in every context. -/
theorem decodeCommand_selectedBy (x : Context) (op : Byte) : (decodeCommand op).selectedBy x = true := by
  unfold decodeCommand
  split <;> rfl

theorem rowOf_decodeCommand (x : Context) (op : Byte) : RowOf x (decodeCommand op) (.frame (commandFrameBits op)) :=
  ⟨decodeCommand_wellFormed op, decodeCommand_selectedBy x op, encode_decodeCommand op⟩

/-- R99: a parameter row is selected by the command that it belongs to. -/
theorem rowOf_decodeParameter (x : Context) (b : Byte) :
    RowOf x (decodeParameter x.cmd b) (.frame (parameterFrameBits b)) := by
  unfold decodeParameter
  split
  case h_14 => exact ⟨rfl, by simp_all [Instr.selectedBy, parameterOpcodes, ← BitVec.toNat_inj], rfl⟩
  all_goals
    rename_i hcmd
    exact ⟨rfl, beq_iff_eq.mpr (BitVec.eq_of_toNat_eq hcmd), rfl⟩

theorem rowOf_decodeFrame (x : Context) (f : U9) : RowOf x (decodeFrame x.cmd f) (.frame f) := by
  rw [frame_eq_of_kind f]
  split
  · rw [decodeFrame_parameterFrameBits]
    exact rowOf_decodeParameter x _
  · rw [decodeFrame_commandFrameBits]
    exact rowOf_decodeCommand x _

/-- Settles O2, by the kinds of operation. -/
theorem everyOperationIsOneRow : Obligations.EveryOperationIsOneRow := by
  intro x op
  have hrow : RowOf x (decodeOp x op) op := by
    cases op with
    | portWrite port v => exact rowOf_decodePortWrite x port v
    | portRead port peek => exact rowOf_decodePortRead x port peek
    | frame f => exact rowOf_decodeFrame x f
    | _ => exact ⟨rfl, rfl, rfl⟩
  exact ⟨hrow.wellFormed, hrow.selected, hrow.encoded⟩

/-- Settles O3: each word is computed. -/
theorem writtenWordsDecode : Obligations.WrittenWordsDecode := by
  unfold Obligations.WrittenWordsDecode
  decide

/-- R93: which bit of which write each frame bit is. -/
theorem frameOfWrites_getLsbD (w0 w1 w2 : Byte) {j : Nat} (hj : j < 3) :
    (frameOfWrites w0 w1 w2).getLsbD (6 + j) = w0.getLsbD j ∧
      (frameOfWrites w0 w1 w2).getLsbD (3 + j) = w1.getLsbD j ∧
      (frameOfWrites w0 w1 w2).getLsbD j = w2.getLsbD j := by
  interval_cases j <;> simp [frameOfWrites]

/-- R93: the canonical writes of a frame, as numbers, carry it. -/
theorem frameWrites_carry : ∀ f : U9,
    frameOfWrites (frameWrite0 f) (frameWrite1 f) (frameWrite2 f) = f ∧ (frameWrite0 f).toNat = f.toNat / 64 ∧
      (frameWrite1 f).toNat = f.toNat / 8 % 8 ∧ (frameWrite2 f).toNat = f.toNat % 8 ∧
      (frameWrite0 f).getLsbD 2 = f.getLsbD 8 := by decide

/-- Settles O4. -/
theorem threeWritesCarryAFrame : Obligations.ThreeWritesCarryAFrame :=
  ⟨fun w0 w1 w2 _ hj => frameOfWrites_getLsbD w0 w1 w2 hj, frameWrites_carry, by decide, by decide⟩

end Sys2Proof.Machine
end

section
/-! The serial path (O8, O23): three writes are the frame they carry, and a window command with its four bytes. -/

namespace Sys2Proof.Machine

/-! ### Writes and frames as steps -/

/-- R123: on the LCD path a write of port 0x18 shifts. -/
theorem step_lcdWrite {s : State} {v : Byte} {rest : List Op} (hpending : s.pending = .portWrite 0x18 v :: rest)
    (hroute : s.block.regs[0x12] = 0) : step s = onBlockChecked (lcdShift v) (s.taken rest) := by
  have hcontext : s.context.route = 0 := hroute
  rw [step_cons hpending, decodeOp, decodePortWrite_data, decodeDataWrite, if_pos hcontext]
  rfl

/-- R109: a frame that is ready runs. -/
theorem step_frame {s : State} {f : U9} {rest : List Op} (hpending : s.pending = .frame f :: rest)
    (hready : s.block.FrameReady) : step s = onBlockChecked (runFrame f) (s.taken rest) := by
  rw [step_cons hpending fun _ _ => hready]
  exact exec_decodeFrame f (s.taken rest)

/-- A run that starts with a ready frame that completes. -/
theorem run_frame {s : State} {f : U9} {k : Block} {rest : List Op} (n : Nat) (hpending : s.pending = .frame f :: rest)
    (hready : s.block.FrameReady) (hrun : runFrame f s.block = .ok k) :
    run (n + 1) s = run n { s.taken rest with block := k } := by
  apply run_succ
  rw [step_frame hpending hready]
  exact onBlockChecked_ok hrun

/-! ### Three writes (R93, R123) -/

theorem lcdShift_incomplete {k : Block} {v : Byte} (h : (shiftIn k.fifo v).toNat < 512) :
    lcdShift v k = .ok { k with fifo := shiftIn k.fifo v } := by
  rw [lcdShift, complete_iff, if_neg (by simpa using h)]

theorem lcdShift_complete {k : Block} {v : Byte} (h : 512 ≤ (shiftIn k.fifo v).toNat) :
    lcdShift v k = runFrame ((shiftIn k.fifo v).truncate 9) { k with fifo := 1 } := by
  rw [lcdShift, complete_iff, if_pos (by simpa using h)]

/-- A run that starts with a write that completes no frame. -/
theorem run_lcdWrite {s : State} {v : Byte} {rest : List Op} (n : Nat) (hpending : s.pending = .portWrite 0x18 v :: rest)
    (hroute : s.block.regs[0x12] = 0) (h : (shiftIn s.block.fifo v).toNat < 512) :
    run (n + 1) s = run n { s.taken rest with block := { s.block with fifo := shiftIn s.block.fifo v } } := by
  apply run_succ
  rw [step_lcdWrite hpending hroute]
  exact onBlockChecked_ok (lcdShift_incomplete h)

/-- R22, R93: from the sentinel, the register after one, two and three writes. -/
theorem shiftIn_three_toNat (w0 w1 w2 : Byte) :
    (shiftIn 1 w0).toNat = 8 + w0.toNat % 8 ∧
      (shiftIn (shiftIn 1 w0) w1).toNat = 64 + w0.toNat % 8 * 8 + w1.toNat % 8 ∧
      (shiftIn (shiftIn (shiftIn 1 w0) w1) w2).toNat = 512 + (frameOfWrites w0 w1 w2).toNat := by
  have hsentinel : (1 : U10).toNat = 1 := rfl
  simp only [frameOfWrites_toNat, shiftIn_toNat, hsentinel]
  omega

/-- Settles O8: two writes shift, and the third completes the frame, which runs from the sentinel it started at. -/
theorem threeWritesRunTheFrame : Obligations.ThreeWritesRunTheFrame := by
  intro s w0 w1 w2 rest hroute hfifo
  obtain ⟨hone, htwo, hthree⟩ := shiftIn_three_toNat w0 w1 w2
  rw [← hfifo] at hone htwo hthree
  have hframe : (shiftIn (shiftIn (shiftIn s.block.fifo w0) w1) w2).truncate 9 = frameOfWrites w0 w1 w2 := by
    apply BitVec.eq_of_toNat_eq
    rw [BitVec.truncate_eq_setWidth, BitVec.toNat_setWidth, hthree]
    omega
  have hshift : lcdShift w2 { s.block with fifo := shiftIn (shiftIn s.block.fifo w0) w1 } =
      runFrame (frameOfWrites w0 w1 w2) s.block := by
    rw [lcdShift_complete (by dsimp only; omega), hframe, ← hfifo]
  calc run 3 { s with pending := .portWrite 0x18 w0 :: .portWrite 0x18 w1 :: .portWrite 0x18 w2 :: rest }
      = run 2 _ := run_lcdWrite 2 rfl hroute (by dsimp only; omega)
    _ = run 1 _ := run_lcdWrite 1 rfl hroute (by dsimp only [State.taken]; omega)
    _ = step _ := run_one
    _ = onBlockChecked (lcdShift w2) _ := step_lcdWrite rfl hroute
    _ = onBlockChecked (runFrame (frameOfWrites w0 w1 w2)) { s with pending := rest, result := none } := by
      dsimp only [onBlockChecked, State.taken]
      rw [hshift]
    _ = exec (decodeFrame s.block.cmd (frameOfWrites w0 w1 w2)) { s with pending := rest, result := none } :=
      (exec_decodeFrame (frameOfWrites w0 w1 w2) { s with pending := rest, result := none }).symm

/-! ### Window commands (R103, R174 to R176) -/

theorem runFrame_parameterFrameBits (b : Byte) (k : Block) : runFrame (parameterFrameBits b) k = parameterFrame b k := by
  rw [runFrame, frameIsParameter_parameterFrameBits, frameByte_parameterFrameBits]
  rfl

/-- R92: bytes issued as parameter frames. -/
def parameterFrames (bytes : List Byte) : List Op := bytes.map fun b => .frame (parameterFrameBits b)

/-- A command frame `op` starts two 9-bit fields that its parameter bytes assemble, the first from the word at index 0 and the
second from the word at index 1: `blockAt p x y` is the block with `p` in `param` and `x` and `y` in the fields. -/
structure AssemblesPair (op : U9) (k : Block) (blockAt : U32 → U9 → U9 → Block) : Prop where
  ready : ∀ p x y, (blockAt p x y).FrameReady
  begins : ∃ x y, runFrame op k = .ok (blockAt 0 x y)
  first : ∀ p x y b, wordIndex p = 0 → parameterFrame b (blockAt p x y) = .ok (blockAt (p + 1) (assemble9 x p b) y)
  second : ∀ p x y b, wordIndex p = 1 → parameterFrame b (blockAt p x y) = .ok (blockAt (p + 1) x (assemble9 y p b))

/-- R103: a high byte at an even index and the low byte after it. -/
theorem assemble9_pair (z : U9) {p : U32} (hp : p.toNat % 2 = 0) (hi lo : Byte) :
    assemble9 (assemble9 z p hi) (p + 1) lo = pair9 hi lo := by
  have hodd : (p + 1).toNat % 2 = 1 := by
    rw [BitVec.toNat_add, show (1 : U32).toNat = 1 from rfl]
    omega
  rw [assemble9_eq, assemble9_eq, hp, hodd]
  exact word9_pair z hi lo

/-- R103: a command that assembles a pair of fields, followed by its four bytes. -/
theorem AssemblesPair.run_five {op : U9} {s : State} {blockAt : U32 → U9 → U9 → Block}
    (h : AssemblesPair op s.block blockAt) (hready : s.block.FrameReady) (a b c d : Byte) (rest : List Op) :
    run 5 { s with pending := .frame op :: parameterFrames [a, b, c, d] ++ rest } =
      .next { s with pending := rest, result := none, block := blockAt 4 (pair9 a b) (pair9 c d) } := by
  obtain ⟨x, y, hbegins⟩ := h.begins
  have hbyte {n p x y k} {t : State} (v : Byte) (ops : List Op) (hv : parameterFrame v (blockAt p x y) = .ok k) :
      run (n + 1) { t with pending := .frame (parameterFrameBits v) :: ops, block := blockAt p x y } =
        run n { t with pending := ops, result := none, block := k } :=
    run_frame n rfl (h.ready p x y) ((runFrame_parameterFrameBits v _).trans hv)
  calc run 5 { s with pending := .frame op :: parameterFrames [a, b, c, d] ++ rest }
      = run 4 _ := run_frame 4 rfl hready hbegins
    _ = run 3 _ := hbyte a _ (h.first 0 x y a rfl)
    _ = run 2 _ := hbyte b _ (h.first 1 _ y b rfl)
    _ = run 1 _ := hbyte c _ (h.second 2 _ y c rfl)
    _ = run 0 _ := hbyte d _ (h.second 3 _ _ d rfl)
    _ = .next { s with pending := rest, result := none, block := blockAt 4 (pair9 a b) (pair9 c d) } := by
      rw [run_zero, ← assemble9_pair x (p := 0) rfl a b, ← assemble9_pair y (p := 2) rfl c d]
      rfl

theorem assemblesPair_caset {k : Block} (hready : k.FrameReady) :
    AssemblesPair 0x02A k fun p x y => { k with cmd := 0x2A, param := p, colStart := x, colEnd := y } where
  ready _ _ _ := hready
  begins := ⟨_, _, rfl⟩
  first _ _ _ _ hp := by simp [parameterFrame, paramFrame, casetEffect, hp, advanceParam]
  second _ _ _ _ hp := by simp [parameterFrame, paramFrame, casetEffect, hp, advanceParam]

theorem assemblesPair_raset {k : Block} (hready : k.FrameReady) :
    AssemblesPair 0x02B k fun p x y => { k with cmd := 0x2B, param := p, rowStart := x, rowEnd := y } where
  ready _ _ _ := hready
  begins := ⟨_, _, rfl⟩
  first _ _ _ _ hp := by simp [parameterFrame, paramFrame, rasetEffect, hp, advanceParam]
  second _ _ _ _ hp := by simp [parameterFrame, paramFrame, rasetEffect, hp, advanceParam]

theorem assemblesPair_ptlar {k : Block} (hready : k.FrameReady) :
    AssemblesPair 0x030 k fun p x y => { k with cmd := 0x30, param := p, partialStart := x, partialEnd := y } where
  ready _ _ _ := hready
  begins := ⟨_, _, rfl⟩
  first _ _ _ _ hp := by simp [parameterFrame, paramFrame, ptlarEffect, hp, advanceParam]
  second _ _ _ _ hp := by simp [parameterFrame, paramFrame, ptlarEffect, hp, advanceParam]

/-- Settles O23: each of the three commands assembles its pair of fields. -/
theorem windowCommandsAssemblePairs : Obligations.WindowCommandsAssemblePairs := by
  intro s a b c d rest hready
  exact ⟨(assemblesPair_caset hready).run_five hready a b c d rest,
    (assemblesPair_raset hready).run_five hready a b c d rest, (assemblesPair_ptlar hready).run_five hready a b c d rest⟩

end Sys2Proof.Machine
end

section
/-! Serial pixels are pixel-port calls (O29 to O31). A call touches no element of the serial path but its operands, so the call
that the last byte of a pixel makes is the call alone, with the bytes' count and channels written. -/

namespace Sys2Proof.Machine

/-! ### The entry points and the elements of the serial path -/

/-- A block operation neither reads nor writes the elements of the serial path. -/
def IgnoresSerial (f : Block → Except Fault Block) : Prop :=
  ∀ (k : Block) (param : U32) (red green blue : Byte),
    f (k.withSerial param red green blue) = (f k).map fun k' => k'.withSerial param red green blue

theorem pixel18_ignoresSerial (r g b : Byte) : IgnoresSerial (pixel18 r g b) := by
  intro k param red green blue
  unfold pixel18
  split
  · exact congrArg Except.ok (storePixel_withSerial ..)
  · rfl

theorem pixel16_ignoresSerial (r g b : Byte) : IgnoresSerial (pixel16 r g b) := by
  intro k param red green blue
  unfold pixel16
  split
  · exact congrArg Except.ok (storePixel_withSerial ..)
  · rfl

theorem pixel12_ignoresSerial (r g b : Byte) : IgnoresSerial (pixel12 r g b) := by
  intro k param red green blue
  unfold pixel12
  split
  · exact congrArg Except.ok (storePixel_withSerial ..)
  · rfl

/-- The increment of R171 after such an operation is the increment before it. -/
theorem IgnoresSerial.map_advanceParam {f : Block → Except Fault Block} (hf : IgnoresSerial f) (k : Block) (param : U32)
    (red green blue : Byte) :
    (f (k.withSerial param red green blue)).map advanceParam = f (k.withSerial (param + 1) red green blue) := by
  rw [hf, hf]
  cases f k <;> rfl

/-! ### The fields of the bytes (R105, R106) -/

theorem channels16_eq (b0 b1 : Byte) :
    red16 b0 = BitVec.ofNat 8 (b0.toNat / 8) ∧
      greenHigh16 b0 ||| greenLow16 b1 = BitVec.ofNat 8 (b0.toNat % 8 * 8 + b1.toNat / 32) ∧
      blue16 b1 = BitVec.ofNat 8 (b1.toNat % 32) := by
  have hred : ∀ b : Byte, red16 b = BitVec.ofNat 8 (b.toNat / 8) := by decide
  have hblue : ∀ b : Byte, blue16 b = BitVec.ofNat 8 (b.toNat % 32) := by decide
  have hhigh : ∀ b : Byte, greenHigh16 b = BitVec.ofNat 8 (b.toNat % 8) <<< 3 := by decide
  have hlow : ∀ b : Byte, greenLow16 b = BitVec.ofNat 8 (b.toNat / 32) := by decide
  have hgreen : ∀ m < 8, ∀ n < 8, BitVec.ofNat 8 m <<< 3 ||| BitVec.ofNat 8 n = BitVec.ofNat 8 (m * 8 + n) := by decide
  refine ⟨hred b0, ?_, hblue b1⟩
  rw [hhigh, hlow]
  exact hgreen _ (by omega) _ (by omega)

theorem nibbles_eq : ∀ b : Byte,
    highNibble b = BitVec.ofNat 8 (b.toNat / 16) ∧ lowNibble b = BitVec.ofNat 8 (b.toNat % 16) := by decide

/-! ### Pixel bytes -/

/-- R109, R179, R230: the next three writes carry a pixel byte, at the depth with the code `code` (R101). -/
structure Block.TakesPixelBytes (k : Block) (code : Nat) : Prop where
  ready : k.FrameReady
  command : k.cmd = 0x2C ∨ k.cmd = 0x3C
  pixelMode : k.ifCtl.getLsbD 4 = false
  depth : k.ifBpp.toNat % 8 = code

section

variable {k : Block} {code : Nat}

theorem Block.TakesPixelBytes.withSerial (h : k.TakesPixelBytes code) (param : U32) (red green blue : Byte) :
    (k.withSerial param red green blue).TakesPixelBytes code :=
  ⟨h.ready, h.command, h.pixelMode, h.depth⟩

theorem Block.TakesPixelBytes.storePixel (h : k.TakesPixelBytes code) (x y z : Byte) :
    (storePixel x y z k).TakesPixelBytes code := by
  rw [storePixel_shape]
  exact ⟨h.ready, h.command, h.pixelMode, h.depth⟩

/-- R170, R179: under a memory write command a parameter frame is a serial pixel byte and the increment of R171. -/
theorem runFrame_pixelByte (h : k.TakesPixelBytes code) (b : Byte) :
    runFrame (parameterFrameBits b) k = (serialPixelByte b k).map advanceParam := by
  have hctl : k.configOnly = false := h.pixelMode
  rw [runFrame_parameterFrameBits, parameterFrame_pixel b h.command, pixelParamFrame_eq_map, memoryWriteByte, hctl]
  rfl

theorem serialPixelByte_18 {phase : Nat} (h : k.TakesPixelBytes 6) (b : Byte) (hphase : k.param.toNat % 3 = phase) :
    serialPixelByte b k = demux18 b phase k := by
  rw [serialPixelByte, bitsPerPixel_eq, h.depth, ← hphase]
  rfl

theorem serialPixelByte_16 {phase : Nat} (h : k.TakesPixelBytes 5) (b : Byte) (hphase : k.param.toNat % 2 = phase) :
    serialPixelByte b k = demux16 b phase k := by
  rw [serialPixelByte, bitsPerPixel_eq, h.depth, ← hphase]
  rfl

theorem serialPixelByte_12 {phase : Nat} (h : k.TakesPixelBytes 3) (b : Byte) (hphase : k.param.toNat % 3 = phase) :
    serialPixelByte b k = demux12 b phase k := by
  rw [serialPixelByte, bitsPerPixel_eq, h.depth, ← hphase]
  rfl

variable {s t : State} {k' : Block} {b : Byte} {rest : List Op} {param param' : U32} {red green blue : Byte}

/-- A run that starts with a pixel byte that completes. -/
theorem run_pixelByte (n : Nat) (hpending : s.pending = .frame (parameterFrameBits b) :: rest)
    (h : s.block.TakesPixelBytes code) (hbyte : serialPixelByte b s.block = .ok (k'.withSerial param red green blue)) :
    run (n + 1) s = run n { s.taken rest with block := k'.withSerial (param + 1) red green blue } := by
  refine run_frame n hpending h.ready ?_
  rw [runFrame_pixelByte h, hbyte]
  rfl

/-- A pixel byte that ends in the call of an entry point is the operation of that call, with the byte counted. -/
theorem run_pixelByte_eq_call {f : Block → Except Fault Block} (hf : IgnoresSerial f)
    (hpending : s.pending = .frame (parameterFrameBits b) :: rest) (h : s.block.TakesPixelBytes code)
    (hbyte : serialPixelByte b s.block = f (k'.withSerial param red green blue)) (hcount : param + 1 = param')
    (hcall : step t = onBlockChecked f (t.taken rest))
    (hsame : t.taken rest = { s.taken rest with block := k'.withSerial param' red green blue }) : run 1 s = run 1 t := by
  have hblock : runFrame (parameterFrameBits b) s.block = f (k'.withSerial param' red green blue) := by
    rw [runFrame_pixelByte h, hbyte, hf.map_advanceParam, hcount]
  rw [run_one, run_one, step_frame hpending h.ready, hcall, hsame]
  simp only [onBlockChecked, State.taken_block, hblock]

end

/-! ### Calls as steps -/

section

variable {s : State} {r g b : Byte} {rest : List Op}

theorem step_pixel18 (h : s.pending = .pixel18 r g b :: rest) : step s = onBlockChecked (pixel18 r g b) (s.taken rest) :=
  step_cons h

theorem step_pixel16 (h : s.pending = .pixel16 r g b :: rest) : step s = onBlockChecked (pixel16 r g b) (s.taken rest) :=
  step_cons h

theorem step_pixel12 (h : s.pending = .pixel12 r g b :: rest) : step s = onBlockChecked (pixel12 r g b) (s.taken rest) :=
  step_cons h

end

/-! ### The byte roles (R171) -/

/-- The roles of three bytes that start a group and do not meet the wrap of the index. -/
theorem param_three_phases {p : U32} (h : p.toNat % 3 = 0) (hwrap : p.toNat + 2 < 2 ^ 32) :
    (p + 1).toNat % 3 = 1 ∧ (p + 1 + 1).toNat % 3 = 2 := by
  have hone : (p + 1).toNat = p.toNat + 1 := BitVec.toNat_add_of_lt (show p.toNat + 1 < 2 ^ 32 by omega)
  have htwo : (p + 1 + 1).toNat = (p + 1).toNat + 1 := BitVec.toNat_add_of_lt (show (p + 1).toNat + 1 < 2 ^ 32 by omega)
  omega

/-- The role of the second of two bytes: the wrap of the index is at an even one. -/
theorem param_two_phases {p : U32} (h : p.toNat % 2 = 0) : (p + 1).toNat % 2 = 1 := by
  have hp := p.isLt
  have hone : (p + 1).toNat = p.toNat + 1 := BitVec.toNat_add_of_lt (show p.toNat + 1 < 2 ^ 32 by omega)
  omega

theorem param_add_three (p : U32) : p + 1 + 1 + 1 = p + 3 := by
  rw [BitVec.add_assoc p 1 1]
  exact BitVec.add_assoc p 2 1

/-! ### The formats -/

/-- Settles O29: two bytes latch, and the third calls the entry point with all three channels. -/
theorem serial18IsPixelPort : Obligations.Serial18IsPixelPort := by
  intro s b0 b1 b2 rest hready hcmd hctl hbpp hparam hwrap
  obtain ⟨hphase1, hphase2⟩ := param_three_phases hparam hwrap
  have h0 : s.block.TakesPixelBytes 6 := ⟨hready, hcmd, hctl, hbpp⟩
  have h1 := h0.withSerial (s.block.param + 1) (channel18 b0) s.block.ifGreen s.block.ifBlue
  have h2 := h0.withSerial (s.block.param + 1 + 1) (channel18 b0) (channel18 b1) s.block.ifBlue
  have hbyte0 : serialPixelByte b0 s.block =
      .ok (s.block.withSerial s.block.param (channel18 b0) s.block.ifGreen s.block.ifBlue) :=
    serialPixelByte_18 h0 b0 hparam
  have hbyte1 : serialPixelByte b1 (s.block.withSerial (s.block.param + 1) (channel18 b0) s.block.ifGreen s.block.ifBlue) =
      .ok (s.block.withSerial (s.block.param + 1) (channel18 b0) (channel18 b1) s.block.ifBlue) :=
    serialPixelByte_18 h1 b1 hphase1
  have hbyte2 : serialPixelByte b2
        (s.block.withSerial (s.block.param + 1 + 1) (channel18 b0) (channel18 b1) s.block.ifBlue) =
      pixel18 (channel18 b0) (channel18 b1) (channel18 b2)
        (s.block.withSerial (s.block.param + 1 + 1) (channel18 b0) (channel18 b1) (channel18 b2)) :=
    serialPixelByte_18 h2 b2 hphase2
  calc run 3 { s with pending := parameterFrames [b0, b1, b2] ++ rest }
      = run 2 _ := run_pixelByte 2 rfl h0 hbyte0
    _ = run 1 _ := run_pixelByte 1 rfl h1 hbyte1
    _ = run 1 { s with
          pending := .pixel18 (channel18 b0) (channel18 b1) (channel18 b2) :: rest
          block := s.block.withSerial (s.block.param + 3) (channel18 b0) (channel18 b1) (channel18 b2) } :=
      run_pixelByte_eq_call (pixel18_ignoresSerial _ _ _) rfl h2 hbyte2 (param_add_three _) (step_pixel18 rfl) rfl

/-- Settles O30: the first byte latches, and the second calls the entry point with all three channels. -/
theorem serial16IsPixelPort : Obligations.Serial16IsPixelPort := by
  intro s b0 b1 rest hready hcmd hctl hbpp hparam r g b
  obtain ⟨hred, hgreen, hblue⟩ : red16 b0 = r ∧ greenHigh16 b0 ||| greenLow16 b1 = g ∧ blue16 b1 = b :=
    channels16_eq b0 b1
  have h0 : s.block.TakesPixelBytes 5 := ⟨hready, hcmd, hctl, hbpp⟩
  have h1 := h0.withSerial (s.block.param + 1) (red16 b0) (greenHigh16 b0) s.block.ifBlue
  have hbyte0 : serialPixelByte b0 s.block =
      .ok (s.block.withSerial s.block.param (red16 b0) (greenHigh16 b0) s.block.ifBlue) :=
    serialPixelByte_16 h0 b0 hparam
  have hbyte1 : serialPixelByte b1 (s.block.withSerial (s.block.param + 1) (red16 b0) (greenHigh16 b0) s.block.ifBlue) =
      pixel16 r g b (s.block.withSerial (s.block.param + 1) r g b) := by
    rw [serialPixelByte_16 h1 b1 (param_two_phases hparam), ← hred, ← hgreen, ← hblue]
    rfl
  calc run 2 { s with pending := parameterFrames [b0, b1] ++ rest }
      = run 1 _ := run_pixelByte 1 rfl h0 hbyte0
    _ = run 1 { s with pending := .pixel16 r g b :: rest, block := s.block.withSerial (s.block.param + 2) r g b } :=
      run_pixelByte_eq_call (pixel16_ignoresSerial r g b) rfl h1 hbyte1 (BitVec.add_assoc _ 1 1) (step_pixel16 rfl) rfl

/-- R236: the nibbles of the bytes are in the range of the entry point, so the call stores some triplet, the same one whatever
the elements of the serial path hold. -/
theorem pixel12_nibbles (b0 b1 : Byte) (k : Block) :
    ∃ x y z, ∀ (param : U32) (red green blue : Byte),
      pixel12 (highNibble b0) (lowNibble b0) (highNibble b1) (k.withSerial param red green blue) =
        .ok ((storePixel x y z k).withSerial param red green blue) := by
  obtain ⟨x, y, z, -, -, -, hok⟩ := pixel12_ok ⟨(nibble_lt b0).1, (nibble_lt b0).2, (nibble_lt b1).1⟩ k
  refine ⟨x, y, z, fun param red green blue => ?_⟩
  rw [pixel12_ignoresSerial, hok]
  rfl

/-- Settles O31: the first byte latches, the second calls the entry point and latches, and the third calls it again. -/
theorem serial12IsPixelPort : Obligations.Serial12IsPixelPort := by
  intro s b0 b1 b2 rest hready hcmd hctl hbpp hparam hwrap high low
  obtain ⟨hphase1, hphase2⟩ := param_three_phases hparam hwrap
  have hhigh (b : Byte) : highNibble b = high b := (nibbles_eq b).1
  have hlow (b : Byte) : lowNibble b = low b := (nibbles_eq b).2
  obtain ⟨x, y, z, hcall⟩ := pixel12_nibbles b0 b1 s.block
  have h0 : s.block.TakesPixelBytes 3 := ⟨hready, hcmd, hctl, hbpp⟩
  have h1 := h0.withSerial (s.block.param + 1) (highNibble b0) (lowNibble b0) s.block.ifBlue
  have h2 := (h0.storePixel x y z).withSerial (s.block.param + 1 + 1) (lowNibble b1) (lowNibble b0) (highNibble b1)
  have hbyte0 : serialPixelByte b0 s.block =
      .ok (s.block.withSerial s.block.param (highNibble b0) (lowNibble b0) s.block.ifBlue) :=
    serialPixelByte_12 h0 b0 hparam
  have hbyte1 : serialPixelByte b1 (s.block.withSerial (s.block.param + 1) (highNibble b0) (lowNibble b0) s.block.ifBlue) =
      .ok ((storePixel x y z s.block).withSerial (s.block.param + 1) (lowNibble b1) (lowNibble b0) (highNibble b1)) := by
    rw [serialPixelByte_12 h1 b1 hphase1, demux12_one]
    exact congrArg _ (hcall _ _ _ _)
  have hbyte2 : serialPixelByte b2 ((storePixel x y z s.block).withSerial (s.block.param + 1 + 1) (lowNibble b1)
        (lowNibble b0) (highNibble b1)) =
      pixel12 (lowNibble b1) (highNibble b2) (lowNibble b2) ((storePixel x y z s.block).withSerial (s.block.param + 1 + 1)
        (lowNibble b1) (highNibble b2) (lowNibble b2)) :=
    serialPixelByte_12 h2 b2 hphase2
  calc run 3 { s with pending := parameterFrames [b0, b1, b2] ++ rest }
      = run 2 _ := run_pixelByte 2 rfl h0 hbyte0
    _ = run 1 _ := run_pixelByte 1 rfl h1 hbyte1
    _ = run 1 { s with
          pending := .pixel12 (lowNibble b1) (highNibble b2) (lowNibble b2) :: rest
          result := none
          block := (storePixel x y z s.block).withSerial (s.block.param + 3) (lowNibble b1) (highNibble b2) (lowNibble b2) } :=
      run_pixelByte_eq_call (pixel12_ignoresSerial _ _ _) rfl h2 hbyte2 (param_add_three _) (step_pixel12 rfl) rfl
    _ = run 2 { s with
          pending := .pixel12 (highNibble b0) (lowNibble b0) (highNibble b1) ::
            .pixel12 (lowNibble b1) (highNibble b2) (lowNibble b2) :: rest
          block := s.block.withSerial (s.block.param + 3) (lowNibble b1) (highNibble b2) (lowNibble b2) } :=
      Eq.symm (run_succ ((step_pixel12 rfl).trans (onBlockChecked_ok (hcall _ _ _ _))))
    _ = run 2 { s with
          pending := .pixel12 (high b0) (low b0) (high b1) :: .pixel12 (low b1) (high b2) (low b2) :: rest
          block := s.block.withSerial (s.block.param + 3) (low b1) (high b2) (low b2) } := by
      simp only [hhigh, hlow]

end Sys2Proof.Machine
end

section
/-! The register file and the inert and refused rows of the data port (O7, O9 to O12). -/

namespace Sys2Proof.Machine

/-! ### LCD-path writes (R123) -/

/-- R123: the shift register after a write, from the arithmetic of its bits. -/
theorem shiftIn_eq_ofNat (f : U10) (v : Byte) : shiftIn f v = BitVec.ofNat 10 ((f.toNat * 8 + v.toNat % 8) % 1024) := by
  rw [← shiftIn_toNat, BitVec.ofNat_toNat, BitVec.setWidth_eq]

/-- R123: the frame that the shift register carries below its top bit. -/
theorem truncate_shiftIn_eq_ofNat (f : U10) (v : Byte) :
    (shiftIn f v).truncate 9 = BitVec.ofNat 9 ((f.toNat * 8 + v.toNat % 8) % 1024) := by
  rw [← shiftIn_toNat, BitVec.ofNat_toNat]

theorem exec_outLcd (v : Byte) (s : State) : exec (.outLcd v) s = onBlockChecked (lcdShift v) s := rfl

/-- R123: a write that completes a frame runs that frame in the state with the register at its sentinel. -/
theorem exec_outLcd_complete {v : Byte} {s : State} (h : 512 ≤ (shiftIn s.block.fifo v).toNat) :
    exec (.outLcd v) s =
      exec (decodeFrame s.block.cmd ((shiftIn s.block.fifo v).truncate 9)) { s with block := { s.block with fifo := 1 } } := by
  calc exec (.outLcd v) s
      = onBlockChecked (runFrame ((shiftIn s.block.fifo v).truncate 9)) { s with block := { s.block with fifo := 1 } } := by
        rw [exec_outLcd, onBlockChecked, lcdShift_complete h, onBlockChecked]
    _ = exec (decodeFrame s.block.cmd ((shiftIn s.block.fifo v).truncate 9)) { s with block := { s.block with fifo := 1 } } :=
        (exec_decodeFrame _ { s with block := { s.block with fifo := 1 } }).symm

/-- Settles O7: below the top bit the write shifts, and from it on the frame that the register carries runs. -/
theorem lcdWriteShiftsThenDispatches : Obligations.LcdWriteShiftsThenDispatches := by
  intro s v
  rw [← shiftIn_toNat]
  constructor
  · intro hbelow
    rw [exec_outLcd, onBlockChecked_ok (lcdShift_incomplete hbelow), shiftIn_toNat, ← shiftIn_eq_ofNat]
  · intro hcomplete
    rw [exec_outLcd_complete hcomplete, truncate_shiftIn_eq_ofNat, shiftIn_toNat]

/-! ### The register file (R120, R121) -/

/-- R120: what a register holds after a write of any register. -/
theorem Block.writeReg_regs_getElem (k : Block) (i j : Fin 24) (v : Byte) :
    (k.writeReg i v).regs[j] = if j.val = i.val then v else k.regs[j] := by
  rw [Block.writeReg_regs]
  simp only [Fin.getElem_fin, Vector.getElem_set, eq_comm (a := i.val)]

/-- Settles O9: both rows write the register that their offset names. -/
theorem registerWriteStores : Obligations.RegisterWriteStores := fun s v =>
  ⟨fun p => ⟨_, rfl, fun i => s.block.writeReg_regs_getElem (lowRegIndex p) i v⟩,
    fun p => ⟨_, rfl, fun i => s.block.writeReg_regs_getElem (highRegIndex p) i v⟩⟩

/-- Settles O10: both rows read the register that their offset names. -/
theorem registerReadReturns : Obligations.RegisterReadReturns := by
  intro s i peek
  constructor
  · intro p hi
    obtain rfl : i = lowRegIndex p := Fin.ext hi
    rfl
  · intro p hi
    obtain rfl : i = highRegIndex p := Fin.ext hi
    rfl

/-! ### Inert and refused accesses (R124 to R127, R287) -/

/-- Settles O11: each of the three rows leaves the block as it is. -/
theorem inertDataPortAccesses : Obligations.InertDataPortAccesses := fun _ _ _ => ⟨rfl, rfl, rfl⟩

/-- Settles O12: each of the three rows is its refusal. -/
theorem undescribedAccessesStop : Obligations.UndescribedAccessesStop := fun _ _ _ _ _ => ⟨rfl, rfl, rfl⟩

end Sys2Proof.Machine
end

section
/-! The command frames (O14 to O20): one lemma for the one-bit commands, and one that says everything a command frame can do. -/

namespace Sys2Proof.Machine

/-! ### Commands that write mode bits (R143 to R150, R154, R155) -/

/-- A command that begins and then writes one mode flag writes that bit of `mode` and keeps the other seven. -/
theorem exec_of_setMode {i : Instr} {s : State} {op : Byte} {m : ModeFlag} {b : Bool}
    (h : exec i s = onBlock (fun k => (beginCommand op k).setMode m b) s) :
    ∃ mode', exec i s = .next { s with block := { s.block with cmd := op, param := 0, mode := mode' } } ∧
      ∀ j < 8, mode'.getLsbD j = if j = modeBit m then b else s.block.mode.getLsbD j :=
  ⟨_, h, fun _ hj => (beginCommand op s.block).setMode_getLsbD m b hj⟩

/-- Settles O14: each of the eight commands writes its own flag. -/
theorem modeCommandsWriteOneBit : Obligations.ModeCommandsWriteOneBit := by
  intro s
  simp only [List.forall_mem_cons]
  exact ⟨exec_of_setMode (m := .sleep) rfl, exec_of_setMode (m := .sleep) rfl, exec_of_setMode (m := .off) rfl,
    exec_of_setMode (m := .off) rfl, exec_of_setMode (m := .invert) rfl, exec_of_setMode (m := .invert) rfl,
    exec_of_setMode (m := .idle) rfl, exec_of_setMode (m := .idle) rfl, List.forall_mem_nil _⟩

/-- R146: the mode bits after NORON's two flags. -/
theorem setMode_partialOn_scroll_getLsbD (k : Block) {j : Nat} (hj : j < 8) :
    ((k.setMode .partialOn false).setMode .scroll false).mode.getLsbD j =
      if j = 4 ∨ j = 5 then false else k.mode.getLsbD j := by
  rw [Block.setMode_getLsbD _ _ _ hj, Block.setMode_getLsbD _ _ _ hj]
  change (if j = 5 then false else if j = 4 then false else k.mode.getLsbD j) = _
  by_cases hscroll : j = 5 <;> simp [hscroll]

/-- Settles O15: PTLON writes one flag and NORON two. -/
theorem partialAndNormalMode : Obligations.PartialAndNormalMode := fun s =>
  ⟨⟨_, rfl, fun _ hj => (beginCommand 0x12 s.block).setMode_getLsbD .partialOn true hj⟩,
    ⟨_, rfl, fun _ hj => setMode_partialOn_scroll_getLsbD (beginCommand 0x13 s.block) hj⟩⟩

/-! ### Commands whose fields are written out (R141, R142, R151 to R153, R156, R157) -/

/-- Settles O16: the fields are those of `softResetFields`. -/
theorem softwareReset : Obligations.SoftwareReset := fun _ => rfl

/-- Settles O17: both commands set `tear` after the common part. -/
theorem tearCommands : Obligations.TearCommands := fun _ => ⟨rfl, rfl⟩

/-- Settles O18: each of these commands is its common part. -/
theorem commandsWithoutImmediateEffect : Obligations.CommandsWithoutImmediateEffect := by
  intro s
  simp only [List.forall_mem_cons]
  exact ⟨⟨rfl, rfl, rfl, rfl, rfl, rfl, rfl, rfl, rfl, rfl, rfl, rfl, rfl, List.forall_mem_nil _⟩, fun _ => rfl⟩

/-- Settles O19: RAMWR is a cursor reset after the common part. -/
theorem memoryWriteResetsTheCursor : Obligations.MemoryWriteResetsTheCursor := by
  intro s
  calc exec .ramwr s = .next { s with block := cursorReset (beginCommand 0x2C s.block) } := rfl
    _ = _ := by
      rw [cursorReset_eq]
      rfl

/-! ### Every command frame (R140) -/

/-- The block after a command frame other than SWRESET and RAMWR: the common part, and what the command may set. -/
def Block.afterCommand (k : Block) (op mode : Byte) (scrollStart : U9) (tear : Bool) : Block :=
  { k with cmd := op, param := 0, mode := mode, scrollStart := scrollStart, tear := tear }

/-- R92: the byte of a command frame is the whole frame. -/
theorem frameByte_toNat_of_command : ∀ f : U9, f.getLsbD 8 = false → (frameByte f).toNat = f.toNat := by decide

/-- R140: everything a command frame can do. -/
theorem exec_command_cases {i : Instr} {f : U9} (s : State) (henc : encode i = .frame f) (hbit : f.getLsbD 8 = false) :
    (i = .swreset ∧ f = 0x001) ∨ (i = .ramwr ∧ f = 0x02C) ∨
      ∃ mode scrollStart tear,
        exec i s = .next { s with block := s.block.afterCommand (frameByte f) mode scrollStart tear } := by
  cases i with
  | swreset => cases henc; exact .inl ⟨rfl, rfl⟩
  | ramwr => cases henc; exact .inr (.inl ⟨rfl, rfl⟩)
  | unassigned op =>
    cases henc
    rw [frameByte_commandFrameBits]
    exact .inr (.inr ⟨_, _, _, rfl⟩)
  | nop | slpin | slpout | ptlon | noron | invoff | invon | gamset | dispoff | dispon | caset | raset | ptlar | vscrdef | teoff
    | teon | madctl | vscrsadd | idmoff | idmon | colmod | ramwrc | ramctrl | pvgamctrl | nvgamctrl =>
    cases henc
    exact .inr (.inr ⟨_, _, _, rfl⟩)
  | casetParam b | rasetParam b | ptlarParam b | vscrdefParam b | ramwrParam b | ramwrcParam b | vscrsaddParam b | madctlParam b
    | colmodParam b | ramctrlParam b | gamsetParam b | pvgamctrlParam b | nvgamctrlParam b | otherParam b =>
    cases henc
    exact absurd (frameIsParameter_parameterFrameBits b) (ne_true_of_eq_false hbit)
  | portAbove port access => cases access <;> cases henc
  | _ => cases henc

/-- Settles O20: SWRESET writes the fields of R141, RAMWR the cursor, and every other command neither. -/
theorem commandFramesKeepTheRest : Obligations.CommandFramesKeepTheRest := by
  intro s i f henc hbit
  rcases exec_command_cases s henc hbit with ⟨rfl, rfl⟩ | ⟨rfl, rfl⟩ | ⟨mode, scrollStart, tear, hexec⟩
  · exact ⟨_, softwareReset s, rfl, rfl, rfl, fun _ => ⟨rfl, rfl, rfl⟩, fun h => absurd rfl h⟩
  · exact ⟨_, memoryWriteResetsTheCursor s, rfl, rfl, rfl, fun h => absurd rfl h,
      fun _ => ⟨rfl, rfl, rfl, rfl, rfl, rfl, rfl, rfl, rfl, rfl⟩⟩
  · exact ⟨_, hexec, frameByte_toNat_of_command f hbit, rfl, rfl, fun _ => ⟨rfl, rfl, rfl⟩,
      fun _ => ⟨rfl, rfl, rfl, rfl, rfl, rfl, rfl, rfl, rfl, rfl⟩⟩

end Sys2Proof.Machine
end

section
/-! The parameter frames that write one field (O21, O22, O24 to O26): one lemma for each effect, in the arithmetic of its index,
and one that adds the increment of R171. -/

namespace Sys2Proof.Machine

/-- R170, R171: a parameter frame whose effect always completes leaves what the effect leaves, one byte on. -/
theorem exec_paramFrame {i : Instr} {s : State} {effect : Block → Block} {k : Block}
    (hexec : exec i s = onBlock (paramFrame effect) s) (heffect : effect s.block = k) :
    exec i s = .next { s with block := { k with param := k.param + 1 } } := by
  rw [hexec, ← heffect]
  rfl

/-! ### 9-bit fields (R103, R172) -/

/-- R172: the bytes of the first word. -/
theorem wordIndex_eq_zero {p : U32} : wordIndex p = 0 ↔ p.toNat < 2 := by
  rw [wordIndex_eq]
  omega

/-- R172: the bytes of the second word. -/
theorem wordIndex_eq_one {p : U32} : wordIndex p = 1 ↔ 2 ≤ p.toNat ∧ p.toNat < 4 := by
  rw [wordIndex_eq]
  omega

/-- R172: the bytes of the third word. -/
theorem wordIndex_eq_two {p : U32} : wordIndex p = 2 ↔ 4 ≤ p.toNat ∧ p.toNat < 6 := by
  rw [wordIndex_eq]
  omega

/-- R174: each of the two fields after the effect; the lemmas on the other window and scroll effects say the same of theirs. -/
theorem casetEffect_eq (b : Byte) (k : Block) :
    casetEffect b k = { k with
      colStart := (if k.param.toNat < 2 then word9 k.colStart (k.param.toNat % 2 == 0) b else k.colStart)
      colEnd := (if 2 ≤ k.param.toNat ∧ k.param.toNat < 4 then word9 k.colEnd (k.param.toNat % 2 == 0) b else k.colEnd) } := by
  simp only [← wordIndex_eq_zero, ← wordIndex_eq_one, ← assemble9_eq]
  unfold casetEffect
  split <;> simp_all

theorem rasetEffect_eq (b : Byte) (k : Block) :
    rasetEffect b k = { k with
      rowStart := (if k.param.toNat < 2 then word9 k.rowStart (k.param.toNat % 2 == 0) b else k.rowStart)
      rowEnd := (if 2 ≤ k.param.toNat ∧ k.param.toNat < 4 then word9 k.rowEnd (k.param.toNat % 2 == 0) b else k.rowEnd) } := by
  simp only [← wordIndex_eq_zero, ← wordIndex_eq_one, ← assemble9_eq]
  unfold rasetEffect
  split <;> simp_all

theorem ptlarEffect_eq (b : Byte) (k : Block) :
    ptlarEffect b k = { k with
      partialStart := (if k.param.toNat < 2 then word9 k.partialStart (k.param.toNat % 2 == 0) b else k.partialStart)
      partialEnd := (if 2 ≤ k.param.toNat ∧ k.param.toNat < 4 then word9 k.partialEnd (k.param.toNat % 2 == 0) b
        else k.partialEnd) } := by
  simp only [← wordIndex_eq_zero, ← wordIndex_eq_one, ← assemble9_eq]
  unfold ptlarEffect
  split <;> simp_all

/-- Settles O21: each of the three effects is its two fields. -/
theorem windowParameters : Obligations.WindowParameters := fun s b =>
  ⟨exec_paramFrame rfl (casetEffect_eq b s.block), exec_paramFrame rfl (rasetEffect_eq b s.block),
    exec_paramFrame rfl (ptlarEffect_eq b s.block)⟩

/-- R177: each of the three fields after the effect. -/
theorem vscrdefEffect_eq (b : Byte) (k : Block) :
    vscrdefEffect b k = { k with
      topArea := (if k.param.toNat < 2 then word9 k.topArea (k.param.toNat % 2 == 0) b else k.topArea)
      scrollArea := (if 2 ≤ k.param.toNat ∧ k.param.toNat < 4 then word9 k.scrollArea (k.param.toNat % 2 == 0) b
        else k.scrollArea)
      bottomArea := (if 4 ≤ k.param.toNat ∧ k.param.toNat < 6 then word9 k.bottomArea (k.param.toNat % 2 == 0) b
        else k.bottomArea) } := by
  simp only [← wordIndex_eq_zero, ← wordIndex_eq_one, ← wordIndex_eq_two, ← assemble9_eq]
  unfold vscrdefEffect
  split <;> simp_all

/-- R181: a byte of the first word goes to the scroll start and sets SCROLL. -/
theorem vscrsaddEffect_used {k : Block} (h : k.param.toNat < 2) (b : Byte) :
    vscrsaddEffect b k =
      { k with scrollStart := word9 k.scrollStart (k.param.toNat % 2 == 0) b }.setMode .scroll true := by
  simp only [vscrsaddEffect, wordIndex_eq_zero.mpr h, assemble9_eq]

/-- R181: every later byte is ignored. -/
theorem vscrsaddEffect_ignored {k : Block} (h : 2 ≤ k.param.toNat) (b : Byte) : vscrsaddEffect b k = k := by
  unfold vscrsaddEffect
  split
  · rename_i hword
    have := wordIndex_eq_zero.mp hword
    omega
  · rfl

/-- Settles O22: VSCRDEF writes one of three fields, and VSCRSADD its field and the bit of SCROLL. -/
theorem scrollParameters : Obligations.ScrollParameters := fun s b =>
  ⟨exec_paramFrame rfl (vscrdefEffect_eq b s.block), fun h => exec_paramFrame rfl (vscrsaddEffect_ignored h b),
    fun h => ⟨_, exec_paramFrame rfl (vscrsaddEffect_used h b), fun _ hj => s.block.setMode_getLsbD .scroll true hj⟩⟩

/-! ### Whole bytes (R182 to R187) -/

/-- R182 to R185: a parameter frame that stores the byte at index 0 in the field that `put` writes and `get` reads. -/
theorem exec_byteAtZero {i : Instr} {s : State} {b : Byte} (put : Block → Byte → Block) (get : Block → Byte)
    (hput : ∀ k, put k (get k) = k)
    (hexec : exec i s = onBlock (paramFrame fun k => if k.param = 0 then put k b else k) s) :
    exec i s =
      .next { s with block := advanceParam (put s.block (if s.block.param.toNat = 0 then b else get s.block)) } := by
  rw [exec_paramFrame hexec rfl]
  by_cases hparam : s.block.param = 0
  · simp [hparam, advanceParam]
  · have : s.block.param.toNat ≠ 0 := fun h => hparam (BitVec.eq_of_toNat_eq h)
    rw [if_neg hparam, if_neg this, hput]
    rfl

/-- Settles O24: each of the four commands stores one field. -/
theorem singleByteParameters : Obligations.SingleByteParameters := fun _ _ =>
  ⟨exec_byteAtZero (fun k v => { k with mac := v }) Block.mac (fun _ => rfl) rfl,
    exec_byteAtZero (fun k v => { k with ifBpp := v }) Block.ifBpp (fun _ => rfl) rfl,
    exec_byteAtZero (fun k v => { k with ifCtl := v }) Block.ifCtl (fun _ => rfl) rfl,
    exec_byteAtZero (fun k v => { k with gamma := v }) Block.gamma (fun _ => rfl) rfl⟩

/-- A write inside the table, in the form that also covers an index past it. -/
theorem set_eq_setIfInBounds (table : Vector Byte 16) {n : Nat} (h : n < 16) (b : Byte) :
    table.set n b = table.setIfInBounds n b :=
  Vector.ext fun i hi => by rw [Vector.getElem_set, Vector.getElem_setIfInBounds]

/-- R186: the table after the effect; `setIfInBounds` ignores the 17th and later bytes. -/
theorem pvgamctrlEffect_eq (b : Byte) (k : Block) :
    pvgamctrlEffect b k = { k with gammaTable0 := k.gammaTable0.setIfInBounds k.param.toNat b } := by
  unfold pvgamctrlEffect
  split
  · rw [set_eq_setIfInBounds]
  · rw [Vector.setIfInBounds_eq_of_size_le (by omega)]

/-- R187: as for table 0. -/
theorem nvgamctrlEffect_eq (b : Byte) (k : Block) :
    nvgamctrlEffect b k = { k with gammaTable1 := k.gammaTable1.setIfInBounds k.param.toNat b } := by
  unfold nvgamctrlEffect
  split
  · rw [set_eq_setIfInBounds]
  · rw [Vector.setIfInBounds_eq_of_size_le (by omega)]

/-- R186, R187: an entry of a gamma table after a write at the index of the parameter, wherever that is. -/
theorem setIfInBounds_getElem_fin (table : Vector Byte 16) (n : Nat) (b : Byte) (j : Fin 16) :
    (table.setIfInBounds n b)[j] = if j.val = n then b else table[j] := by
  simp only [Fin.getElem_fin, Vector.getElem_setIfInBounds, eq_comm (a := n)]

/-- Settles O25: each of the two effects writes its table at the index, when that is in the table. -/
theorem gammaTableParameters : Obligations.GammaTableParameters := fun s b =>
  ⟨⟨s.block.gammaTable0.setIfInBounds s.block.param.toNat b, exec_paramFrame rfl (pvgamctrlEffect_eq b s.block),
      setIfInBounds_getElem_fin s.block.gammaTable0 _ b⟩,
    ⟨s.block.gammaTable1.setIfInBounds s.block.param.toNat b, exec_paramFrame rfl (nvgamctrlEffect_eq b s.block),
      setIfInBounds_getElem_fin s.block.gammaTable1 _ b⟩⟩

/-- Settles O26: no effect comes before the increment. -/
theorem otherParametersOnlyCount : Obligations.OtherParametersOnlyCount := by
  intro s b
  have hsucc : BitVec.ofNat 32 ((s.block.param.toNat + 1) % 2 ^ 32) = s.block.param + 1 :=
    BitVec.eq_of_toNat_eq (by simp [BitVec.toNat_add])
  rw [hsucc]
  rfl

end Sys2Proof.Machine
end

section
/-! Pixel bytes (O27, O28): where the cursor goes, what a store leaves in the GRAM, and which bytes store. -/

namespace Sys2Proof.Machine

/-! ### The cursor and the GRAM (R262 to R267) -/

/-- R263, R264: an axis of the cursor one step on, through the mask of a GRAM column. -/
theorem columnStep_toNat (x : U9) (reversed : Bool) :
    ((if reversed then x - 1 else x + 1) &&& 0xFF).toNat = (x.toNat + if reversed then 255 else 1) % 256 := by
  have hmask : ∀ y : U9, (y &&& 0xFF).toNat = y.toNat % 256 := fun y => by
    rw [BitVec.toNat_and]
    exact Nat.and_two_pow_sub_one_eq_mod y.toNat 8
  rw [hmask]
  cases reversed
  · simp [BitVec.toNat_add]
  · simp only [if_true, BitVec.toNat_sub, show (1 : U9).toNat = 1 from rfl]
    omega

/-- R263, R264: an axis of the cursor one step on, through the mask of a GRAM row. -/
theorem rowStep_toNat (x : U9) (reversed : Bool) :
    ((if reversed then x - 1 else x + 1) &&& 0x1FF).toNat = (x.toNat + if reversed then 511 else 1) % 512 := by
  have hmask : ∀ y : U9, y &&& 0x1FF = y := fun y => BitVec.and_allOnes
  rw [hmask]
  cases reversed
  · simp [BitVec.toNat_add]
  · simp only [if_true, BitVec.toNat_sub, show (1 : U9).toNat = 1 from rfl]
    omega

/-- R266: the pass is not complete while the slow axis is not at its end, or when a range of the window is inverted. -/
theorem pass_open {slow slowEnd colStart colEnd rowStart rowEnd : U9}
    (h : slow ≠ slowEnd ∨ colEnd.toNat < colStart.toNat ∨ rowEnd.toNat < rowStart.toNat) :
    ¬ (slow = slowEnd ∧ colStart ≤ colEnd ∧ rowStart ≤ rowEnd) := by
  rintro ⟨hslow, hcols, hrows⟩
  rw [BitVec.le_def] at hcols hrows
  rcases h with h | h | h
  · exact h hslow
  · omega
  · omega

/-- R263 to R266: the advance, in the arithmetic of the claims. -/
theorem cursorAdvanced_cursorAdvance {k : Block} (h : k.exhausted = false) : CursorAdvanced k (cursorAdvance k) := by
  constructor
  · intro hrcx
    rw [cursorAdvance_column k hrcx]
    refine ⟨fun hfast => ?_, fun hfast hslow hcols hrows => ?_, fun hfast hopen => ?_⟩
    · rw [if_neg hfast]
      exact ⟨h, rfl, columnStep_toNat k.colReg _⟩
    · rw [if_pos hfast, if_pos ⟨hslow, hcols, hrows⟩]
      exact ⟨rfl, rfl, rfl⟩
    · rw [if_pos hfast, if_neg (pass_open hopen)]
      exact ⟨h, rfl, rowStep_toNat k.rowReg false⟩
  · intro hrcx
    rw [cursorAdvance_row k hrcx]
    refine ⟨fun hfast => ?_, fun hfast hslow hcols hrows => ?_, fun hfast hopen => ?_⟩
    · rw [if_neg hfast]
      exact ⟨h, rfl, rowStep_toNat k.rowReg _⟩
    · rw [if_pos hfast, if_pos ⟨hslow, hcols, hrows⟩]
      exact ⟨rfl, rfl, rfl⟩
    · rw [if_pos hfast, if_neg (pass_open hopen)]
      exact ⟨h, rfl, columnStep_toNat k.colReg false⟩

/-- R263 to R267: a store into a cursor that is not exhausted moves it one pixel on. -/
theorem cursorAdvanced_storePixel (x y z : Byte) {k : Block} (h : k.exhausted = false) :
    CursorAdvanced k (storePixel x y z k) := by
  obtain ⟨hrow, hcol, hexhausted⟩ := storePixel_cursor x y z h
  have hadvance := cursorAdvanced_cursorAdvance h
  unfold CursorAdvanced at hadvance ⊢
  rwa [hrow, hcol, hexhausted]

/-- R262: a store leaves every byte but the colour lanes of the cursor's cell as it was. -/
theorem storePixel_frame_read_ne (x y z : Byte) (k : Block) {a : Nat}
    (ha : ∀ lane < 3, a ≠ frameAddr k.rowReg.toNat k.colReg.toNat lane) :
    (storePixel x y z k).frame.read a = k.frame.read a := by
  cases h : k.exhausted with
  | true => rw [storePixel_exhausted x y z h]
  | false =>
    rw [storePixel_frame x y z h]
    split
    · obtain ⟨-, -, -, hother⟩ := putFrame_read k k.rowReg.toNat k.colReg.toNat x y z
      exact hother a ha
    · rfl

/-- R262: a store with the cursor outside the GRAM writes nothing. -/
theorem storePixel_frame_outside (x y z : Byte) {k : Block} (hout : 320 ≤ k.rowReg.toNat ∨ 240 ≤ k.colReg.toNat) :
    (storePixel x y z k).frame = k.frame := by
  cases h : k.exhausted with
  | true => rw [storePixel_exhausted x y z h]
  | false =>
    have hin : cursorInGram k = false := by
      simp only [cursorInGram, Config.numRows, Config.numCols, Bool.and_eq_false_iff, decide_eq_false_iff_not]
      omega
    rw [storePixel_frame x y z h, hin]
    rfl

/-! ### Bytes that latch (R179, R230 to R233) -/

/-- R170: a pixel parameter whose byte completes leaves what the byte leaves, one byte on. -/
theorem exec_pixelParam {i : Instr} {s : State} {b : Byte} {k : Block} (hexec : exec i s = onBlockChecked (pixelParamFrame b) s)
    (hbyte : memoryWriteByte b s.block = .ok k) : exec i s = .next { s with block := advanceParam k } := by
  rw [hexec]
  exact onBlockChecked_ok (by rw [pixelParamFrame_eq_map, hbyte]; rfl)

/-- R179, R230: in configuration mode, or at a depth without a format, a pixel byte does nothing. -/
theorem memoryWriteByte_disabled {k : Block} (b : Byte)
    (h : k.ifCtl.getLsbD 4 = true ∨ (k.ifBpp.toNat % 8 ≠ 3 ∧ k.ifBpp.toNat % 8 ≠ 5 ∧ k.ifBpp.toNat % 8 ≠ 6)) :
    memoryWriteByte b k = .ok k := by
  unfold memoryWriteByte
  split
  · rfl
  · rename_i hctl
    obtain ⟨h3, h5, h6⟩ := h.resolve_left hctl
    have hdepth : bitsPerPixel k.ifBpp = none := by rw [bitsPerPixel_eq, if_neg h3, if_neg h5, if_neg h6]
    rw [serialPixelByte, hdepth]

/-- Settles O27: the byte does nothing, and then `param` counts it. -/
theorem disabledPixelBytesOnlyCount : Obligations.DisabledPixelBytesOnlyCount := fun _ b h =>
  ⟨exec_pixelParam rfl (memoryWriteByte_disabled b h), exec_pixelParam rfl (memoryWriteByte_disabled b h)⟩

/-- A pixel byte completes and changes the accumulators alone. -/
def Latches (k : Block) (o : Except Fault Block) : Prop :=
  ∃ red green blue, o = .ok (k.withSerial k.param red green blue)

/-- A pixel byte completes with one store, and otherwise changes the accumulators alone. -/
def Stores (k : Block) (o : Except Fault Block) : Prop :=
  ∃ x y z red green blue, o = .ok ((storePixel x y z k).withSerial k.param red green blue)

/-- R179, R231 to R233: which demultiplexer takes the byte. -/
theorem memoryWriteByte_demux {k : Block} (b : Byte) (hctl : k.ifCtl.getLsbD 4 = false) :
    (k.ifBpp.toNat % 8 = 6 → memoryWriteByte b k = demux18 b (k.param.toNat % 3) k) ∧
    (k.ifBpp.toNat % 8 = 5 → memoryWriteByte b k = demux16 b (k.param.toNat % 2) k) ∧
    (k.ifBpp.toNat % 8 = 3 → memoryWriteByte b k = demux12 b (k.param.toNat % 3) k) := by
  have hmode : k.configOnly = false := hctl
  rw [memoryWriteByte, hmode, serialPixelByte, bitsPerPixel_eq]
  refine ⟨fun h => ?_, fun h => ?_, fun h => ?_⟩ <;> rw [h] <;> rfl

/-- R231 to R233: a byte that completes no pixel is latched, or not used at all. -/
theorem latches_memoryWriteByte {k : Block} (b : Byte) (h : ¬ k.ByteCompletes) : Latches k (memoryWriteByte b k) := by
  cases hctl : k.ifCtl.getLsbD 4 with
  | true => exact ⟨_, _, _, memoryWriteByte_disabled b (.inl hctl)⟩
  | false =>
    obtain ⟨h18, h16, h12⟩ := memoryWriteByte_demux b hctl
    have hrole := not_and.mp h hctl
    rcases (by omega : k.ifBpp.toNat % 8 = 6 ∨ k.ifBpp.toNat % 8 = 5 ∨ k.ifBpp.toNat % 8 = 3 ∨
      (k.ifBpp.toNat % 8 ≠ 3 ∧ k.ifBpp.toNat % 8 ≠ 5 ∧ k.ifBpp.toNat % 8 ≠ 6)) with hbpp | hbpp | hbpp | hnone
    · rw [h18 hbpp]
      rcases (by omega : k.param.toNat % 3 = 0 ∨ k.param.toNat % 3 = 1) with hp | hp <;> rw [hp] <;> exact ⟨_, _, _, rfl⟩
    · rw [h16 hbpp, (by omega : k.param.toNat % 2 = 0)]
      exact ⟨_, _, _, rfl⟩
    · rw [h12 hbpp, (by omega : k.param.toNat % 3 = 0)]
      exact ⟨_, _, _, rfl⟩
    · exact ⟨_, _, _, memoryWriteByte_disabled b (.inr hnone)⟩

/-! ### Bytes that store (R231 to R236) -/

/-- A call of an entry point that stores still does so after a latch. -/
theorem Stores.of_entry {f : Block → Except Fault Block} {k : Block} {x y z : Byte} (hf : IgnoresSerial f)
    (hok : f k = .ok (storePixel x y z k)) (red green blue : Byte) :
    Stores k (f (k.withSerial k.param red green blue)) :=
  ⟨x, y, z, red, green, blue, by rw [hf, hok]; rfl⟩

theorem stores_demux18 {k : Block} (b : Byte) (hred : k.ifRed.toNat < 64) (hgreen : k.ifGreen.toNat < 64) :
    Stores k (demux18 b 2 k) :=
  .of_entry (pixel18_ignoresSerial _ _ _) (pixel18_ok ⟨hred, hgreen, channel18_lt b⟩ k) k.ifRed k.ifGreen (channel18 b)

theorem stores_demux16 {k : Block} (b : Byte) (hred : k.ifRed.toNat < 32) (hgreen : k.ifGreen.toNat < 64) :
    Stores k (demux16 b 1 k) :=
  .of_entry (pixel16_ignoresSerial _ _ _)
    (pixel16_ok ⟨hred, or_green_lt _ _ hgreen (green16_lt b).2, blue16_lt b⟩ k)
    k.ifRed (k.ifGreen ||| greenLow16 b) (blue16 b)

theorem stores_demux12_one {k : Block} (b : Byte) (hred : k.ifRed.toNat < 16) (hgreen : k.ifGreen.toNat < 16) :
    Stores k (demux12 b 1 k) := by
  obtain ⟨x, y, z, -, -, -, hok⟩ := pixel12_ok ⟨hred, hgreen, (nibble_lt b).1⟩ k
  obtain ⟨x, y, z, red, green, blue, hstore⟩ :=
    Stores.of_entry (pixel12_ignoresSerial _ _ _) hok k.ifRed k.ifGreen (highNibble b)
  refine ⟨x, y, z, lowNibble b, green, blue, ?_⟩
  rw [demux12_one]
  exact congrArg (Except.map fun k' => { k' with ifRed := lowNibble b }) hstore

theorem stores_demux12_two {k : Block} (b : Byte) (hred : k.ifRed.toNat < 16) : Stores k (demux12 b 2 k) := by
  obtain ⟨x, y, z, -, -, -, hok⟩ := pixel12_ok ⟨hred, nibble_lt b⟩ k
  exact .of_entry (pixel12_ignoresSerial _ _ _) hok k.ifRed (highNibble b) (lowNibble b)

/-- R231 to R233: a byte that completes a pixel stores it, when the accumulators are in range. -/
theorem stores_memoryWriteByte {k : Block} (b : Byte) (hserial : k.SerialOk) (hcmd : k.cmd = 0x2C ∨ k.cmd = 0x3C)
    (h : k.ByteCompletes) : Stores k (memoryWriteByte b k) := by
  obtain ⟨hctl, hrole⟩ := h
  obtain ⟨h18, h16, h12⟩ := memoryWriteByte_demux b hctl
  obtain ⟨hok18, hok16, hok12⟩ := hserial hcmd hctl
  simp only [bitsPerPixel_eq] at hok18 hok16 hok12
  rcases hrole with ⟨hbpp, hp⟩ | ⟨hbpp, hp⟩ | ⟨hbpp, hp⟩
  · obtain ⟨hred, hgreen⟩ := hok18 (by rw [hbpp]; rfl)
    rw [h18 hbpp, hp]
    exact stores_demux18 b (hred (by omega)) (hgreen hp)
  · obtain ⟨hred, hgreen⟩ := hok16 (by rw [hbpp]; rfl) hp
    rw [h16 hbpp, hp]
    exact stores_demux16 b hred hgreen
  · obtain ⟨hred, hgreen⟩ := hok12 (by rw [hbpp]; rfl)
    rw [h12 hbpp]
    rcases (by omega : k.param.toNat % 3 = 1 ∨ k.param.toNat % 3 = 2) with hp1 | hp2
    · rw [hp1]
      exact stores_demux12_one b (hred hp) (hgreen hp1)
    · rw [hp2]
      exact stores_demux12_two b (hred hp)

/-- Settles O28: a byte that completes no pixel latches, and one that completes a pixel is one store. -/
theorem pixelBytesComplete : Obligations.PixelBytesComplete := by
  intro s b hserial i hi
  have hcmd : s.block.cmd = 0x2C ∨ s.block.cmd = 0x3C := hi.imp And.left And.left
  have hexec : exec i s = onBlockChecked (pixelParamFrame b) s := by
    rcases hi with ⟨-, rfl⟩ | ⟨-, rfl⟩ <;> rfl
  by_cases hcompletes : s.block.ByteCompletes
  · obtain ⟨x, y, z, red, green, blue, hbyte⟩ := stores_memoryWriteByte b hserial hcmd hcompletes
    have hshape := congrArg (fun k => { s with block := advanceParam k }) (memoryWriteByte_shape hbyte)
    refine ⟨_, exec_pixelParam hexec hbyte, hshape, fun h => ?_, fun _ h => cursorAdvanced_storePixel x y z h, fun _ =>
      ⟨fun a ha => storePixel_frame_read_ne x y z s.block ha, storePixel_frame_outside x y z⟩⟩
    have hexhausted : s.block.exhausted = true := h.resolve_left (not_not_intro hcompletes)
    rw [storePixel_exhausted x y z hexhausted]
    exact ⟨rfl, rfl, rfl, rfl⟩
  · obtain ⟨red, green, blue, hbyte⟩ := latches_memoryWriteByte b hcompletes
    exact ⟨_, exec_pixelParam hexec hbyte, rfl, fun _ => ⟨rfl, rfl, rfl, rfl⟩, fun h => absurd h hcompletes,
      fun h => absurd h hcompletes⟩

end Sys2Proof.Machine
end

section
/-! The raster scan (O39 to O41): the evaluation of a row as a returned flag, what `vsync` finds, and that evaluating a row again
changes nothing. -/

namespace Sys2Proof.Machine

/-! ### Row evaluations as steps (R216, R217) -/

/-- An operation that returns a Boolean, from what it does to the block. -/
theorem returnFlag_eq {f : Block → Bool × Block} {s : State} {flag : Bool} {k : Block} (h : f s.block = (flag, k)) :
    returnFlag f s = .next { s with block := k, result := some (.flag flag) } := by
  rw [returnFlag, h]

theorem exec_hsync {s : State} {flag : Bool} {k : Block} (h : evalRow (s.block.row + 1) s.block = (flag, k)) :
    exec .hsync s = .next { s with block := k, result := some (.flag flag) } :=
  returnFlag_eq (f := hsync) h

/-- Settles O39: the row is `row + 1` on u16, and it is either a row of the display or past the last. -/
theorem hsyncEvaluatesTheNextRow : Obligations.HsyncEvaluatesTheNextRow := by
  intro s
  have hrow : (s.block.row + 1).toNat = (s.block.row.toNat + 1) % 65536 := BitVec.toNat_add ..
  rw [← hrow]
  constructor
  · intro hvisible
    obtain ⟨mode', heval, hmode⟩ := evalRow_visible s.block (s.block.row + 1) hvisible
    exact ⟨mode', exec_hsync heval, hmode⟩
  · intro hpast
    exact exec_hsync (evalRow_past s.block (s.block.row + 1) hpast)

/-! ### The cursor before row 0 (R217, R261) -/

/-- R217: the block whose row 0 `vsync` evaluates, with the cursor at the window start in configuration mode. -/
def Block.atFrameStart (k : Block) : Block := if k.configOnly then cursorReset k else k

theorem vsync_eq_evalRow (k : Block) : vsync k = evalRow 0 k.atFrameStart := rfl

/-- R261: the cursor fields are all that `atFrameStart` may change. -/
theorem Block.atFrameStart_eq (k : Block) :
    k.atFrameStart = { k with
      rowReg := (if k.ifCtl.getLsbD 4 then (if k.mac.getLsbD 5 then k.colStart else k.rowStart) else k.rowReg)
      colReg := (if k.ifCtl.getLsbD 4 then (if k.mac.getLsbD 5 then k.rowStart else k.colStart) else k.colReg)
      exhausted := k.exhausted && !k.ifCtl.getLsbD 4 } := by
  have hconfig : k.configOnly = k.ifCtl.getLsbD 4 := rfl
  rw [atFrameStart, hconfig, cursorReset_eq]
  cases k.ifCtl.getLsbD 4 <;> simp

/-- R217: `vsync` is the evaluation of row 0 after the cursor reset, and that row is never past the last. -/
theorem exec_vsync (s : State) :
    ∃ mode', RowMode s.block.atFrameStart 0 mode' ∧
      exec .vsync s = .next { s with block := rowEvaluated s.block.atFrameStart 0 mode', result := some (.flag true) } := by
  obtain ⟨mode', heval, hmode⟩ := evalRow_visible s.block.atFrameStart 0 (Nat.zero_le 319)
  exact ⟨mode', hmode, returnFlag_eq ((vsync_eq_evalRow s.block).trans heval)⟩

/-- Settles O40: `vsync` evaluates row 0 of the block at its frame start, whose cursor `atFrameStart_eq` writes out. -/
theorem vsyncEvaluatesRowZero : Obligations.VsyncEvaluatesRowZero := by
  intro s
  obtain ⟨mode', hmode, hexec⟩ := exec_vsync s
  rw [Block.atFrameStart_eq] at hmode hexec
  exact ⟨mode', hmode, hexec⟩

/-! ### Evaluating a row again (R217) -/

section
variable {k : Block} {r : Nat} {mode mode' : Byte}

/-- R211, R212: a row fixes all eight mode bits. -/
theorem RowMode.unique (h : RowMode k r mode) (h' : RowMode k r mode') : mode = mode' := by
  obtain ⟨hblank, hignore, hkept⟩ := h
  obtain ⟨hblank', hignore', hkept'⟩ := h'
  refine BitVec.eq_of_getLsbD_eq fun j hj => ?_
  obtain hlow | rfl | rfl : j < 6 ∨ j = 6 ∨ j = 7 := by omega
  · rw [hkept j hlow, hkept' j hlow]
  · exact Bool.eq_iff_iff.mpr (hblank.trans hblank'.symm)
  · rw [hignore, hignore']

/-- R212: an evaluation keeps all that the blanking test and the mode bits of a row depend on. -/
theorem RowMode.of_rowEvaluated (h : RowMode k r mode) (h' : RowMode (rowEvaluated k r mode) r mode') :
    RowMode k r mode' := by
  obtain ⟨-, -, hkept⟩ := h
  obtain ⟨hblank', hignore', hkept'⟩ := h'
  have hpartial : (rowEvaluated k r mode).mode.getLsbD 4 = k.mode.getLsbD 4 := hkept 4 (by omega)
  have hblanked : blankedRow (rowEvaluated k r mode) r ↔ blankedRow k r := by
    rw [blankedRow, hpartial]
    rfl
  exact ⟨hblank'.trans hblanked, hignore', fun j hj => (hkept' j hj).trans (hkept j hj)⟩

/-- R213: an evaluation keeps the SCROLL bit and the areas, and so the source row. -/
theorem RowMode.scrolledRow_rowEvaluated (h : RowMode k r mode) :
    scrolledRow (rowEvaluated k r mode) r = scrolledRow k r := by
  obtain ⟨-, -, hkept⟩ := h
  have hscroll : (rowEvaluated k r mode).mode.getLsbD 5 = k.mode.getLsbD 5 := hkept 5 (by omega)
  unfold scrolledRow
  rw [hscroll]
  rfl

/-- R210 to R215: evaluating the same row again leaves the state of one evaluation. -/
theorem RowMode.rowEvaluated_again (h : RowMode k r mode) (h' : RowMode (rowEvaluated k r mode) r mode') :
    rowEvaluated (rowEvaluated k r mode) r mode' = rowEvaluated k r mode := by
  obtain rfl : mode = mode' := h.unique (h.of_rowEvaluated h')
  rw [rowEvaluated, h.scrolledRow_rowEvaluated]
  rfl

/-- R217: after one `vsync` the cursor already stands at the frame start. -/
theorem atFrameStart_rowEvaluated_atFrameStart (k : Block) (r : Nat) (mode : Byte) :
    (rowEvaluated k.atFrameStart r mode).atFrameStart = rowEvaluated k.atFrameStart r mode := by
  unfold Block.atFrameStart
  by_cases hconfig : k.configOnly
  · have hkept : (rowEvaluated (cursorReset k) r mode).configOnly := by
      rw [cursorReset_eq]
      exact hconfig
    rw [if_pos hconfig, if_pos hkept, cursorReset_eq, cursorReset_eq]
    rfl
  · rw [if_neg hconfig]
    exact if_neg hconfig

end

/-- Settles O41: the second `vsync` finds the cursor at the frame start and evaluates row 0 again. -/
theorem vsyncIsIdempotent : Obligations.VsyncIsIdempotent := by
  intro s t hfirst
  obtain ⟨mode, hmode, hexec⟩ := exec_vsync s
  obtain rfl := Host.Outcome.next.inj (hexec.symm.trans hfirst)
  obtain ⟨mode', hmode', hagain⟩ := exec_vsync { s with
    block := rowEvaluated s.block.atFrameStart 0 mode, result := some (.flag true) }
  rw [atFrameStart_rowEvaluated_atFrameStart] at hmode' hagain
  rw [hagain, hmode.rowEvaluated_again hmode']

end Sys2Proof.Machine
end

section
/-! The pixel port (O32 to O35): when an entry point faults, and that one that completes is one store at the cursor. -/

namespace Sys2Proof.Machine

/-! ### The ranges of the channels (R234 to R236, R321) -/

/-- An entry point that completes in its range and faults outside faults exactly outside. -/
theorem onBlockChecked_fault_iff {f : Block → Except Fault Block} {s : State} {e : Fault} {inRange : Prop}
    (hok : inRange → ∃ k, f s.block = .ok k) (herror : ¬ inRange → f s.block = .error e) :
    onBlockChecked f s = .fault e ↔ ¬ inRange := by
  refine ⟨fun hfault hin => ?_, fun hout => onBlockChecked_error (herror hout)⟩
  obtain ⟨k, hk⟩ := hok hin
  cases hk.symm.trans (onBlockChecked_fault hfault)

/-- Settles O32: each entry point completes in its range and faults outside. -/
theorem pixelPortFaultsExactly : Obligations.PixelPortFaultsExactly := by
  intro s r g b
  refine ⟨?_, ?_, ?_⟩
  · have hok (h : r.toNat < 64 ∧ g.toNat < 64 ∧ b.toNat < 64) : ∃ k, pixel18 r g b s.block = .ok k :=
      ⟨_, pixel18_ok h s.block⟩
    exact (onBlockChecked_fault_iff hok fun h => pixel18_error h s.block).trans (by omega)
  · have hok (h : r.toNat < 32 ∧ g.toNat < 64 ∧ b.toNat < 32) : ∃ k, pixel16 r g b s.block = .ok k :=
      ⟨_, pixel16_ok h s.block⟩
    exact (onBlockChecked_fault_iff hok fun h => pixel16_error h s.block).trans (by omega)
  · have hok (h : r.toNat < 16 ∧ g.toNat < 16 ∧ b.toNat < 16) : ∃ k, pixel12 r g b s.block = .ok k := by
      obtain ⟨_, _, _, -, -, -, hstore⟩ := pixel12_ok h s.block
      exact ⟨_, hstore⟩
    exact (onBlockChecked_fault_iff hok fun h => pixel12_error h s.block).trans (by omega)

/-! ### Stores at the cursor (R262, R267) -/

/-- R262, R267: everything a store does to the GRAM, and that it does nothing else but move the cursor. -/
theorem storesAtCursor_storePixel (s : State) (x y z : Byte) :
    StoresAtCursor s { s with block := storePixel x y z s.block } x y z := by
  refine ⟨fun hexhausted => ?_, ?_, fun hexhausted hrow hcol => ?_, fun hout => storePixel_frame_outside x y z hout⟩
  · rw [storePixel_exhausted x y z hexhausted]
  · exact congrArg (fun k => { s with block := k }) (storePixel_shape x y z s.block)
  · have hin : cursorInGram s.block = true := by simp [cursorInGram, hrow, hcol]
    dsimp only
    rw [storePixel_frame x y z hexhausted, if_pos hin]
    exact putFrame_read s.block s.block.rowReg.toNat s.block.colReg.toNat x y z

/-- An entry point that stores a triplet stores it at the cursor. -/
theorem onBlockChecked_stores {f : Block → Except Fault Block} {s : State} {x y z : Byte}
    (h : f s.block = .ok (storePixel x y z s.block)) : ∃ t, onBlockChecked f s = .next t ∧ StoresAtCursor s t x y z :=
  ⟨_, onBlockChecked_ok h, storesAtCursor_storePixel s x y z⟩

/-- Settles O33: in range the call is the store of the replicated channels. -/
theorem pixel18StoresAtTheCursor : Obligations.Pixel18StoresAtTheCursor := by
  intro s r g b hr hg hb
  apply onBlockChecked_stores
  rw [pixel18_ok ⟨hr, hg, hb⟩, expand6_eq r hr, expand6_eq g hg, expand6_eq b hb]

/-- Settles O34: in range the call is the store of the table's entries. -/
theorem pixel16StoresAtTheCursor : Obligations.Pixel16StoresAtTheCursor := by
  intro s r g b x y z hr hg hb hx hy hz
  obtain ⟨-, rfl⟩ := Vector.getElem?_eq_some_iff.mp hx
  obtain ⟨-, rfl⟩ := Vector.getElem?_eq_some_iff.mp hy
  obtain ⟨-, rfl⟩ := Vector.getElem?_eq_some_iff.mp hz
  exact onBlockChecked_stores (pixel16_ok ⟨hr, hg, hb⟩ s.block)

/-- Settles O35: in range the call is the store of the table's entries at the widened indices. -/
theorem pixel12StoresAtTheCursor : Obligations.Pixel12StoresAtTheCursor := by
  intro s r g b x y z hr hg hb hx hy hz
  obtain ⟨x', y', z', hx', hy', hz', hstore⟩ := pixel12_ok ⟨hr, hg, hb⟩ s.block
  rw [widen4to5_toNat r hr] at hx'
  rw [widen4to6_toNat g hg] at hy'
  rw [widen4to5_toNat b hb] at hz'
  obtain rfl := Option.some.inj (hx'.symm.trans hx)
  obtain rfl := Option.some.inj (hy'.symm.trans hy)
  obtain rfl := Option.some.inj (hz'.symm.trans hz)
  exact onBlockChecked_stores hstore

end Sys2Proof.Machine
end

section
/-! Refresh (O43 to O47): what the refresh of an active line does, what its cell shows, and a line of refreshes. -/

namespace Sys2Proof.Machine

/-! ### One refresh (R240, R244) -/

/-- R240: the state after the refresh of a line that is not ignored. -/
def State.refreshed (s : State) : State :=
  { s with
    draws := drawsAfter s.block s.draws
    result := some (.flag (refreshActive s.draws s.block).1)
    block := (refreshActive s.draws s.block).2 }

@[simp] theorem State.refreshed_display (s : State) :
    s.refreshed.block.display = (writePixel (pixelColour s.block s.draws) s.block).display := by
  rw [State.refreshed, refreshActive_shape]

theorem exec_refresh_ignored {s : State} (h : s.block.mode.getLsbD 7 = true) :
    exec .refresh s = .next { s with result := some (.flag false) } :=
  if_pos h

theorem exec_refresh_active {s : State} (h : s.block.mode.getLsbD 7 = false) : exec .refresh s = .next s.refreshed :=
  if_neg (Bool.eq_false_iff.mp h)

/-- R244: a refresh writes no byte but those of its own cell. -/
theorem writePixel_read_ne (c : Colour) {k : Block} {x : Nat}
    (hx : ∀ lane < 4, x ≠ displayAddr k.col.toNat k.dstRow.toNat lane) :
    (writePixel c k).display.read x = k.display.read x := by
  unfold writePixel
  split
  · obtain ⟨-, -, -, -, hother⟩ := putDisplay_read k k.col.toNat k.dstRow.toNat c.1 c.2.1 c.2.2
    exact hother x hx
  · rfl

/-- R244: the alpha of a refreshed cell. -/
theorem writePixel_read_alpha (c : Colour) {k : Block} (hcol : k.col.toNat < 240) (hrow : k.dstRow.toNat < 320) :
    (writePixel c k).display.read (displayAddr k.col.toNat k.dstRow.toNat 3) = 0xFF := by
  rw [writePixel_inside c hcol hrow]
  obtain ⟨-, -, -, halpha, -⟩ := putDisplay_read k k.col.toNat k.dstRow.toNat c.1 c.2.1 c.2.2
  exact halpha

/-- Settles O43: the refresh is that of `refreshActive_shape`, and its output write stays in its cell. -/
theorem refreshWritesItsCell : Obligations.RefreshWritesItsCell := by
  intro s
  refine ⟨exec_refresh_ignored, fun hactive => ⟨s.refreshed, exec_refresh_active hactive, ?_⟩⟩
  rw [State.refreshed, refreshActive_shape]
  exact ⟨rfl, stepColumn_toNat s.block.col s.block.colDir,
    fun hcol hrow => ⟨writePixel_read_alpha _ hcol hrow, fun _ => writePixel_read_ne _⟩,
    fun hout => by dsimp only; rw [writePixel_outside _ hout]⟩

/-! ### The channels of a colour (R241 to R243) -/

/-- The channel of a colour that goes to a lane of a cell. -/
def Colour.channel (c : Colour) : Nat → Byte
  | 0 => c.1
  | 1 => c.2.1
  | _ => c.2.2

/-- R244: a colour lane of a refreshed cell. -/
theorem writePixel_read_channel (c : Colour) {k : Block} {lane : Nat} (hcol : k.col.toNat < 240)
    (hrow : k.dstRow.toNat < 320) (hlane : lane < 3) :
    (writePixel c k).display.read (displayAddr k.col.toNat k.dstRow.toNat lane) = Colour.channel c lane := by
  rw [writePixel_inside c hcol hrow]
  obtain ⟨hred, hgreen, hblue, -, -⟩ := putDisplay_read k k.col.toNat k.dstRow.toNat c.1 c.2.1 c.2.2
  interval_cases lane
  · exact hred
  · exact hgreen
  · exact hblue

/-- A refresh of an active line shows the colour of its pixel. -/
theorem refreshed_read_channel (s : State) {lane : Nat} (hcol : s.block.col.toNat < 240)
    (hrow : s.block.dstRow.toNat < 320) (hlane : lane < 3) :
    s.refreshed.block.display.read (displayAddr s.block.col.toNat s.block.dstRow.toNat lane) =
      Colour.channel (pixelColour s.block s.draws) lane := by
  rw [State.refreshed_display]
  exact writePixel_read_channel _ hcol hrow hlane

/-- R241: what blanks a pixel. -/
theorem showsBlank_iff (k : Block) :
    showsBlank k = true ↔ k.mode.getLsbD 0 = true ∨ k.mode.getLsbD 1 = true ∨ k.mode.getLsbD 6 = true := by
  simp only [showsBlank, Bool.or_eq_true, or_assoc]
  rfl

theorem showsBlank_eq_false {k : Block} (hsleep : k.mode.getLsbD 0 = false) (hoff : k.mode.getLsbD 1 = false)
    (hblank : k.mode.getLsbD 6 = false) : showsBlank k = false := by
  rw [← Bool.not_eq_true, showsBlank_iff, hsleep, hoff, hblank]
  simp

/-- Settles O44: the three colour lanes are those of the blank colour, and the alpha is full anyway. -/
theorem refreshBlankColour : Obligations.RefreshBlankColour := by
  intro s hactive hcol hrow hmodes
  have hblank : showsBlank s.block = true := (showsBlank_iff s.block).mpr hmodes
  have hnoise : ¬ showsNoise s.block = true := by simp [showsNoise, hblank]
  refine ⟨s.refreshed, exec_refresh_active hactive, if_neg hnoise, fun lane hlane => ?_⟩
  rcases (by omega : lane < 3 ∨ lane = 3) with hcolour | rfl
  · rw [refreshed_read_channel s hcol hrow hcolour, pixelColour, if_pos hblank]
    interval_cases lane <;> rfl
  · rw [State.refreshed_display]
    exact writePixel_read_alpha _ hcol hrow

/-- Settles O45: the pixel shows the noise colour, which is the next three draws. -/
theorem refreshNoise : Obligations.RefreshNoise := by
  intro s hactive hcol hrow hsleep hoff hblank hsource
  have hshown : showsBlank s.block = false := showsBlank_eq_false hsleep hoff hblank
  have hnoise : showsNoise s.block = true := by simp [showsNoise, hshown, hsource]
  refine ⟨s.refreshed, exec_refresh_active hactive, if_pos hnoise, fun lane hlane => ?_⟩
  rw [refreshed_read_channel s hcol hrow hlane, pixelColour, hshown, hnoise]
  interval_cases lane <;> rfl

/-! ### The colour of the GRAM (R243) -/

section
variable (k : Block) (c : Colour) {lane : Nat}

theorem channel_gramTriplet (hlane : lane < 3) :
    Colour.channel (gramTriplet k) lane = k.frame.read (frameAddr k.srcRow.toNat k.col.toNat lane) := by
  interval_cases lane <;> rfl

theorem channel_orderColour (hlane : lane < 3) :
    Colour.channel (orderColour k c) lane = Colour.channel c (if k.mac.getLsbD 3 then 2 - lane else lane) := by
  have hbgr : k.macFlag .bgr = k.mac.getLsbD 3 := rfl
  rw [orderColour, hbgr]
  cases k.mac.getLsbD 3
  · rfl
  · interval_cases lane <;> rfl

theorem channel_map (f : Byte → Byte) (lane : Nat) :
    Colour.channel (f c.1, f c.2.1, f c.2.2) lane = f (Colour.channel c lane) := by
  match lane with
  | 0 | 1 | _ + 2 => rfl

theorem channel_invertColour (lane : Nat) :
    Colour.channel (invertColour k c) lane =
      if k.mode.getLsbD 2 then Colour.channel c lane ^^^ 0xFF#8 else Colour.channel c lane := by
  have hinvert : k.modeFlag .invert = k.mode.getLsbD 2 := rfl
  rw [invertColour, hinvert]
  cases k.mode.getLsbD 2
  · rfl
  · exact channel_map c (· ^^^ 0xFF#8) lane

theorem channel_idleColour (lane : Nat) :
    Colour.channel (idleColour k c) lane =
      if k.mode.getLsbD 3 then idleChannel (Colour.channel c lane) else Colour.channel c lane := by
  have hidle : k.modeFlag .idle = k.mode.getLsbD 3 := rfl
  rw [idleColour, hidle]
  cases k.mode.getLsbD 3
  · rfl
  · exact channel_map c idleChannel lane

end

/-- R243: the inversion of a channel, as arithmetic. -/
theorem invert_eq_sub : ∀ c : Byte, c ^^^ 0xFF#8 = BitVec.ofNat 8 (255 - c.toNat) := by decide

/-- R243: the idle reduction shows the top bit, and an inversion before it the other value of that bit. -/
theorem shownChannel_eq (mode c : Byte) :
    shownChannel mode c =
      if mode.getLsbD 3 then idleChannel (if mode.getLsbD 2 then c ^^^ 0xFF#8 else c)
      else if mode.getLsbD 2 then c ^^^ 0xFF#8 else c := by
  have htop : (c ^^^ 0xFF#8).getLsbD 7 = !c.getLsbD 7 := by simp
  unfold shownChannel idleChannel
  cases mode.getLsbD 3
  · simp only [Bool.false_eq_true, if_false, invert_eq_sub]
  · cases mode.getLsbD 2
    · simp only [Bool.false_eq_true, if_true, if_false]
      cases c.getLsbD 7 <;> rfl
    · simp only [if_true, htop]
      cases c.getLsbD 7 <;> rfl

/-- R243: the order, the inversion and the reduction of a channel of the GRAM. -/
theorem channel_gramColour (k : Block) {lane : Nat} (hlane : lane < 3) :
    Colour.channel (gramColour k) lane = shownChannel k.mode (k.frame.read (frameAddr k.srcRow.toNat k.col.toNat
      (if k.mac.getLsbD 3 then 2 - lane else lane))) := by
  have hsource : (if k.mac.getLsbD 3 then 2 - lane else lane) < 3 := by split <;> omega
  rw [gramColour, channel_idleColour, channel_invertColour, channel_orderColour k _ hlane, channel_gramTriplet k hsource,
    shownChannel_eq]

/-- Settles O46: the pixel shows the colour of the GRAM. -/
theorem refreshShowsTheGram : Obligations.RefreshShowsTheGram := by
  intro s hactive hcol hrow hsleep hoff hblank hsource
  have hshown : showsBlank s.block = false := showsBlank_eq_false hsleep hoff hblank
  have hnoise : showsNoise s.block = false := by simp [showsNoise, hshown, hsource]
  refine ⟨s.refreshed, exec_refresh_active hactive, if_neg (Bool.eq_false_iff.mp hnoise), fun lane hlane => ?_⟩
  rw [refreshed_read_channel s hcol hrow hlane, pixelColour, hshown, hnoise]
  exact channel_gramColour s.block hlane

/-! ### A line of refreshes (R240, R215) -/

/-- A run that completes was a first step and the rest of the run. -/
theorem run_succ_next {n : Nat} {s t : State} (h : run (n + 1) s = .next t) :
    ∃ u, step s = .next u ∧ run n u = .next t := by
  cases hstep : step s with
  | next u => exact ⟨u, rfl, (run_succ hstep).symm.trans h⟩
  | fault e =>
    have hcore : Sys2Proof.core.step s = .fault e := hstep
    simp [run, Host.Core.run, hcore] at h
  | refused e =>
    have hcore : Sys2Proof.core.step s = .refused e := hstep
    simp [run, Host.Core.run, hcore] at h

/-- A run goes on from where a shorter one completed. -/
theorem run_add_of_next {m : Nat} (n : Nat) {s t : State} (h : run m s = .next t) : run (m + n) s = run n t := by
  induction m generalizing s with
  | zero =>
    obtain rfl := Host.Outcome.next.inj h
    rw [Nat.zero_add]
  | succ m ih =>
    obtain ⟨u, hstep, hrest⟩ := run_succ_next h
    rw [Nat.add_right_comm, run_succ hstep]
    exact ih hrest

theorem step_refresh {s : State} {rest : List Op} (hpending : s.pending = .refreshPixel :: rest)
    (hactive : s.block.mode.getLsbD 7 = false) : step s = .next (s.taken rest).refreshed :=
  (step_cons hpending).trans (exec_refresh_active hactive)

/-- R240: the block after `n` refreshes of a line that `k` has at its start. -/
structure Block.LineScanned (k : Block) (n : Nat) (k' : Block) : Prop where
  col : k'.col.toNat = n
  colDir : k'.colDir = .forward
  dstRow : k'.dstRow = k.dstRow
  ignore : k'.mode.getLsbD 7 = decide (n = 240)
  alpha : ∀ c < n, k'.display.read (displayAddr c k.dstRow.toNat 3) = 0xFF
  kept : ∀ x, (∀ c < n, ∀ lane < 4, x ≠ displayAddr c k.dstRow.toNat lane) → k'.display.read x = k.display.read x

/-- R215: a line that is scanned forward, at its start. -/
theorem Block.lineScanned_zero {k : Block} (hcol : k.col = 0) (hdir : k.colDir = .forward)
    (hactive : k.mode.getLsbD 7 = false) : k.LineScanned 0 k where
  col := by rw [hcol]; rfl
  colDir := hdir
  dstRow := rfl
  ignore := hactive
  alpha := nofun
  kept := fun _ _ => rfl

section
variable {k k' : Block} {n : Nat}

/-- R240: the column after one refresh more. -/
theorem Block.LineScanned.stepColumn_toNat (h : k.LineScanned n k') (hn : n < 240) :
    (stepColumn k'.col k'.colDir).toNat = n + 1 := by
  rw [Machine.stepColumn_toNat, h.colDir, h.col]
  exact Nat.mod_eq_of_lt (by omega)

/-- R244: a refresh writes the next cell of the line and keeps the cells before it. -/
theorem Block.LineScanned.refreshActive (h : k.LineScanned n k') (hn : n < 240) (hrow : k.dstRow.toNat < 320) (draws : Nat) :
    k.LineScanned (n + 1) (refreshActive draws k').2 := by
  have hnext := h.stepColumn_toNat hn
  have hcell : ∀ lane, displayAddr k'.col.toNat k'.dstRow.toNat lane = displayAddr n k.dstRow.toNat lane := fun lane => by
    rw [h.col, h.dstRow]
  rw [refreshActive_shape]
  refine ⟨hnext, h.colDir, h.dstRow, ?_, fun c hc => ?_, fun x hx => ?_⟩
  · dsimp only
    rw [hnext]
    rcases (by omega : n + 1 ≤ 239 ∨ n + 1 = 240) with hinside | hend
    · rw [if_pos hinside, h.ignore]
      exact decide_eq_decide.mpr (by omega)
    · rw [if_neg (by omega), hend]
      simp
  · rcases (by omega : c < n ∨ c = n) with hbefore | rfl
    · refine (writePixel_read_ne _ fun lane hlane haddr => ?_).trans (h.alpha c hbefore)
      obtain ⟨hcol, -, -⟩ := displayAddr_inj hrow hrow (by omega) hlane (haddr.trans (hcell lane))
      omega
    · rw [← hcell]
      exact writePixel_read_alpha _ (by rw [h.col]; exact hn) (by rw [h.dstRow]; exact hrow)
  · refine (writePixel_read_ne _ fun lane hlane => ?_).trans (h.kept x fun c hc => hx c (by omega))
    rw [hcell]
    exact hx n (by omega) lane hlane

end

/-- R240: the refreshes of a line, one after the other. -/
theorem run_refreshes {s : State} (hcol : s.block.col = 0) (hdir : s.block.colDir = .forward)
    (hactive : s.block.mode.getLsbD 7 = false) (hrow : s.block.dstRow.toNat < 320) {n : Nat} (hn : n ≤ 240)
    (rest : List Op) :
    ∃ t, run n { s with pending := List.replicate n .refreshPixel ++ rest } = .next t ∧ t.pending = rest ∧
      (0 < n → t.result = some (.flag (decide (n < 240)))) ∧ s.block.LineScanned n t.block := by
  induction n generalizing rest with
  | zero => exact ⟨_, run_zero, rfl, nofun, Block.lineScanned_zero hcol hdir hactive⟩
  | succ n ih =>
    obtain ⟨t, hrun, hpending, -, hline⟩ := ih (by omega) (.refreshPixel :: rest)
    have hon : t.block.mode.getLsbD 7 = false := hline.ignore.trans (decide_eq_false (by omega))
    have hops : List.replicate (n + 1) Op.refreshPixel ++ rest = List.replicate n .refreshPixel ++ .refreshPixel :: rest := by
      rw [List.replicate_succ', List.append_assoc]
      rfl
    refine ⟨(t.taken rest).refreshed, ?_, rfl, fun _ => ?_, hline.refreshActive (by omega) hrow _⟩
    · rw [hops, run_add_of_next 1 hrun, run_one, step_refresh hpending hon]
    · rw [State.refreshed, refreshActive_shape, State.taken_block, hline.stepColumn_toNat (by omega),
        decide_eq_decide.mpr (by omega : n + 1 ≤ 239 ↔ n + 1 < 240)]

/-- Settles O47, by the refreshes of the line. -/
theorem lineEndsAfter240Refreshes : Obligations.LineEndsAfter240Refreshes := by
  intro s n rest hn hcol hdir hactive hrow
  obtain ⟨t, hrun, hpending, hresult, hline⟩ := run_refreshes hcol hdir hactive hrow hn rest
  exact ⟨t, hrun, hpending, hline.col, hline.ignore, hresult, hline.alpha, hline.kept⟩

end Sys2Proof.Machine
end

section
/-! The cursor (O36, O37): where each entry point leaves it, and what takes it out of exhaustion. -/

namespace Sys2Proof.Machine

/-! ### The entry points (R263 to R266) -/

/-- An entry point that stores a triplet moves the cursor one pixel on. -/
theorem onBlockChecked_advances {f : Block → Except Fault Block} {s : State} {x y z : Byte}
    (hopen : s.block.exhausted = false) (h : f s.block = .ok (storePixel x y z s.block)) :
    ∃ t, onBlockChecked f s = .next t ∧ CursorAdvanced s.block t.block :=
  ⟨_, onBlockChecked_ok h, cursorAdvanced_storePixel x y z hopen⟩

/-- Settles O36: in range each of the three calls is a store. -/
theorem cursorAdvancesAfterAPixel : Obligations.CursorAdvancesAfterAPixel := by
  intro s r g b hopen
  refine ⟨fun hr hg hb => ?_, fun hr hg hb => ?_, fun hr hg hb => ?_⟩
  · exact onBlockChecked_advances hopen (pixel18_ok ⟨hr, hg, hb⟩ s.block)
  · exact onBlockChecked_advances hopen (pixel16_ok ⟨hr, hg, hb⟩ s.block)
  · obtain ⟨x, y, z, -, -, -, hstore⟩ := pixel12_ok ⟨hr, hg, hb⟩ s.block
    exact onBlockChecked_advances hopen hstore

/-! ### Block operations and an exhausted cursor (R267, R268) -/

section
variable {k k' : Block}

/-- R151: no command frame but 0x2C writes `exhausted`. -/
theorem commandFrame_exhausted {op : Byte} (hop : op ≠ 0x2C) (k : Block) : (commandFrame op k).exhausted = k.exhausted := by
  unfold commandFrame
  split
  case h_14 hramwr => exact absurd (BitVec.eq_of_toNat_eq hramwr) hop
  all_goals rfl

/-- R267: a parameter frame stores nothing while the cursor is exhausted. -/
theorem parameterFrame_exhausted {b : Byte} (hparked : k.exhausted = true) (h : parameterFrame b k = .ok k') :
    k'.exhausted = true := by
  by_cases hcmd : k.cmd = 0x2C ∨ k.cmd = 0x3C
  · rw [parameterFrame_pixel b hcmd] at h
    obtain ⟨k₁, hbyte, rfl⟩ := pixelParamFrame_next h
    cases memoryWriteByte_cases hbyte with
    | latches red green blue => exact hparked
    | stores x y z red green blue =>
      rw [storePixel_exhausted x y z hparked]
      exact hparked
  · obtain ⟨-, htracked⟩ := parameterFrame_keeps hcmd h
    have hkept : k'.exhausted = k.exhausted := congrArg (fun tracked => tracked.exhausted) htracked
    exact hkept.trans hparked

/-- R92, R95: the only frame of the command 0x2C. -/
theorem frame_eq_ramwr : ∀ f : U9, frameIsParameter f = false → frameByte f = 0x2C → f = 0x02C := by decide

/-- R267: a frame that takes the cursor out of exhaustion is the command 0x2C. -/
theorem runFrame_unparks {f : U9} (h : runFrame f k = .ok k') (hparked : k.exhausted = true)
    (hfree : k'.exhausted = false) : f = 0x02C ∧ k' = ramwrCmd k := by
  unfold runFrame at h
  split at h
  · exact absurd (parameterFrame_exhausted hparked h) (ne_true_of_eq_false hfree)
  · rename_i hcommand
    cases h
    by_cases hop : frameByte f = 0x2C
    · exact ⟨frame_eq_ramwr f (Bool.eq_false_iff.mpr hcommand) hop, by rw [hop]; rfl⟩
    · rw [commandFrame_exhausted hop, hparked] at hfree
      cases hfree

/-- R123, R267: a write of the LCD path that takes the cursor out of exhaustion completes the command 0x2C. -/
theorem lcdShift_unparks {v : Byte} (h : lcdShift v k = .ok k') (hparked : k.exhausted = true)
    (hfree : k'.exhausted = false) : k'.cmd = 0x2C ∧ k'.param = 0 := by
  unfold lcdShift at h
  split at h
  · obtain ⟨-, rfl⟩ := runFrame_unparks h hparked hfree
    rw [ramwrCmd, cursorReset_eq]
    exact ⟨rfl, rfl⟩
  · cases h
    cases hparked.symm.trans hfree

end

theorem evalRow_exhausted (r : U16) (k : Block) : (evalRow r k).2.exhausted = k.exhausted := by
  unfold evalRow
  split <;> rfl

theorem msRead_exhausted (k : Block) : (msRead k).2.exhausted = k.exhausted := by
  unfold msRead
  split
  · rfl
  · split <;> simp only [msClearAccumulator, msBuildStatus]

/-! ### From the block to the operations -/

section
variable {s t : State}

/-- R121, R282: a port read leaves `exhausted` alone. -/
theorem execPortRead_exhausted {x : Context} {port : U16} {peek : Bool} (h : exec (decodePortRead x port peek) s = .next t) :
    t.block.exhausted = s.block.exhausted := by
  unfold decodePortRead decodeDataRead at h
  split_ifs at h <;> cases h
  · rfl
  · rfl
  · rfl
  · exact msRead_exhausted s.block
  · rfl

/-- R120, R281: a port write leaves `exhausted` alone, or is one of the LCD path. -/
theorem execPortWrite_exhausted {x : Context} {port : U16} {v : Byte} (h : exec (decodePortWrite x port v) s = .next t) :
    t.block.exhausted = s.block.exhausted ∨ (port = 0x18 ∧ x.route = 0 ∧ lcdShift v s.block = .ok t.block) := by
  unfold decodePortWrite decodeDataWrite at h
  split_ifs at h with hlow hhigh hdata hroute
  · cases h; exact .inl rfl
  · cases h; exact .inl rfl
  · obtain ⟨k, hk, rfl⟩ := onBlockChecked_next h
    exact .inr ⟨BitVec.eq_of_toNat_eq hdata, hroute, hk⟩
  · cases h; exact .inl rfl
  · cases h; exact .inl rfl
  · cases h
  · cases h

/-- R217: a vsync outside configuration mode leaves `exhausted` alone. -/
theorem vsync_exhausted {k : Block} (hmode : k.ifCtl.getLsbD 4 = false) : (vsync k).2.exhausted = k.exhausted := by
  rw [vsync_eq_evalRow, evalRow_exhausted, Block.atFrameStart_eq, hmode, Bool.not_false, Bool.and_true]

theorem execRefresh_exhausted (h : execRefresh s = .next t) : t.block.exhausted = s.block.exhausted := by
  unfold execRefresh at h
  split at h <;> cases h
  · rfl
  · rw [refreshActive_shape]

/-- R267: an entry point that stores leaves the cursor exhausted. -/
theorem onBlockChecked_storesParked {f : Block → Except Fault Block} (h : onBlockChecked f s = .next t)
    (hf : ∀ k', f s.block = .ok k' → ∃ x y z, k' = storePixel x y z s.block) (hparked : s.block.exhausted = true) :
    t.block.exhausted = s.block.exhausted := by
  obtain ⟨k', hk, rfl⟩ := onBlockChecked_next h
  obtain ⟨x, y, z, rfl⟩ := hf k' hk
  rw [storePixel_exhausted x y z hparked]

/-- R267, R268: every operation but a frame and a port write leaves an exhausted cursor so, or is one of the exceptions. -/
theorem exec_decodeOp_exhausted {op : Op} (hframe : ∀ f, op ≠ .frame f) (hwrite : ∀ port v, op ≠ .portWrite port v)
    (h : exec (decodeOp s.context op) s = .next t) (hparked : s.block.exhausted = true) :
    t.block.exhausted = s.block.exhausted ∨ (op = .vsync ∧ s.block.ifCtl.getLsbD 4 = true) ∨ op = .powerOnReset ∨
      op = .restore true := by
  cases op with
  | portWrite port v => exact absurd rfl (hwrite port v)
  | portRead port peek => exact .inl (execPortRead_exhausted h)
  | frame f => exact absurd rfl (hframe f)
  | hsync => cases h; exact .inl (evalRow_exhausted _ _)
  | vsync =>
    cases hmode : s.block.ifCtl.getLsbD 4 with
    | true => exact .inr (.inl ⟨rfl, rfl⟩)
    | false => cases h; exact .inl (vsync_exhausted hmode)
  | refreshPixel => exact .inl (execRefresh_exhausted h)
  | pixel18 r g b => exact .inl (onBlockChecked_storesParked h (fun _ hk => ⟨_, _, _, pixel18_stores hk⟩) hparked)
  | pixel16 r g b => exact .inl (onBlockChecked_storesParked h (fun _ hk => pixel16_stores hk) hparked)
  | pixel12 r g b => exact .inl (onBlockChecked_storesParked h (fun _ hk => pixel12_stores hk) hparked)
  | powerOnReset => exact .inr (.inr (.inl rfl))
  | setDeviceType | setRevision | save => cases h; exact .inl rfl
  | restore ok =>
    cases ok with
    | true => exact .inr (.inr (.inr rfl))
    | false => cases h; exact .inl rfl

/-- R123, R267: a step that takes the cursor out of exhaustion by a port write completes the command 0x2C on the LCD path. -/
theorem step_portWrite_unparks {v : Byte} {port : U16} {rest : List Op} (hpending : s.pending = .portWrite port v :: rest)
    (h : step s = .next t) (hparked : s.block.exhausted = true) (hfree : t.block.exhausted = false) :
    port = 0x18 ∧ s.block.regs[0x12] = 0 ∧ t.block.cmd = 0x2C ∧ t.block.param = 0 := by
  rw [step_cons hpending] at h
  rcases execPortWrite_exhausted h with hkept | ⟨hport, hroute, hshift⟩
  · cases (hkept.trans hparked).symm.trans hfree
  · exact ⟨hport, hroute, lcdShift_unparks hshift hparked hfree⟩

/-- R267: a ready frame that takes the cursor out of exhaustion is the command 0x2C. -/
theorem step_frame_unparks {f : U9} {rest : List Op} (hpending : s.pending = .frame f :: rest) (hready : s.block.FrameReady)
    (h : step s = .next t) (hparked : s.block.exhausted = true) (hfree : t.block.exhausted = false) : f = 0x02C := by
  rw [step_frame hpending hready] at h
  obtain ⟨k, hrun, rfl⟩ := onBlockChecked_next h
  exact (runFrame_unparks hrun hparked hfree).1

/-- R123, R267: a frame that is not ready, and takes the cursor out of exhaustion, does so by its first write. -/
theorem step_frame_unready_unparks {f : U9} {rest : List Op} (hpending : s.pending = .frame f :: rest)
    (hready : ¬ s.block.FrameReady) (h : step s = .next t) (hparked : s.block.exhausted = true)
    (hfree : t.block.exhausted = false) :
    s.block.regs[0x12] = 0 ∧ t.block.cmd = 0x2C ∧ t.block.param = 0 ∧ s.block.fifo ≠ 1 := by
  rw [step_frame_unready hpending hready] at h
  obtain ⟨-, hroute, hcmd, hparam⟩ := step_portWrite_unparks rfl h hparked hfree
  exact ⟨hroute, hcmd, hparam, fun hfifo => hready ⟨hroute, hfifo⟩⟩

end

/-- Settles O37: a frame or a port write runs the command 0x2C, and no other operation but the exceptions clears `exhausted`. -/
theorem onlyACursorResetUnparks : Obligations.OnlyACursorResetUnparks := by
  intro s t op rest hpending h hparked hfree
  by_cases hframe : ∃ f, op = .frame f
  · obtain ⟨f, rfl⟩ := hframe
    by_cases hready : s.block.FrameReady
    · exact .inl (congrArg Op.frame (step_frame_unparks hpending hready h hparked hfree))
    · obtain ⟨hroute, hcmd, hparam, hfifo⟩ := step_frame_unready_unparks hpending hready h hparked hfree
      exact .inr (.inr (.inr (.inr ⟨hroute, hcmd, hparam, .inr ⟨hfifo, f, rfl⟩⟩)))
  · by_cases hwrite : ∃ port v, op = .portWrite port v
    · obtain ⟨port, v, rfl⟩ := hwrite
      obtain ⟨rfl, hroute, hcmd, hparam⟩ := step_portWrite_unparks hpending h hparked hfree
      exact .inr (.inr (.inr (.inr ⟨hroute, hcmd, hparam, .inl ⟨v, rfl⟩⟩)))
    · rw [step_cons hpending fun f hf => absurd ⟨f, hf⟩ hframe] at h
      have hother (port : U16) (v : Byte) : op ≠ .portWrite port v := fun hop => hwrite ⟨port, v, hop⟩
      rcases exec_decodeOp_exhausted (s := s.taken rest) (not_exists.mp hframe) hother h hparked with
        hkept | hvsync | hreset | hrestore
      · cases (hkept.trans hparked).symm.trans hfree
      · exact .inr (.inl hvsync)
      · exact .inr (.inr (.inl hreset))
      · exact .inr (.inr (.inr (.inl hrestore)))

end Sys2Proof.Machine
end

section
/-! The scan and the cursor (O42): putting the cursor elsewhere before an operation of the scan is putting it there after it. -/

namespace Sys2Proof.Machine

/-! ### Block operations (R260) -/

/-- The block with its cursor put elsewhere. -/
def Block.cursorAt (k : Block) (row col : U9) (exhausted : Bool) : Block :=
  { k with rowReg := row, colReg := col, exhausted := exhausted }

/-- A block operation that returns a value leaves the GRAM alone, and does the same wherever the cursor stands. -/
def IgnoresCursor {α : Type} (f : Block → α × Block) : Prop :=
  ∀ (k : Block), (f k).2.frame = k.frame ∧ ∀ (row col : U9) (exhausted : Bool),
    f (k.cursorAt row col exhausted) = ((f k).1, (f k).2.cursorAt row col exhausted)

/-- R211 to R215: a row evaluation reads the scan state. -/
theorem evalRow_ignoresCursor (r : U16) : IgnoresCursor (evalRow r) := by
  intro k
  unfold evalRow
  split <;> exact ⟨rfl, fun _ _ _ => rfl⟩

theorem hsync_ignoresCursor : IgnoresCursor hsync := fun k => evalRow_ignoresCursor (k.row + 1) k

/-- R244: the output write depends on the scan position, not on the cursor. -/
theorem writePixel_cursorAt_display (c : Colour) (k : Block) (row col : U9) (exhausted : Bool) :
    (writePixel c (k.cursorAt row col exhausted)).display = (writePixel c k).display := by
  unfold writePixel
  rw [show onDisplay (k.cursorAt row col exhausted) = onDisplay k from rfl]
  split <;> rfl

/-- R240 to R244: a refresh reads the GRAM at the scan position. -/
theorem refreshActive_ignoresCursor (n : Nat) : IgnoresCursor (refreshActive n) := by
  intro k
  refine ⟨?_, fun row col exhausted => ?_⟩
  · rw [refreshActive_shape]
  · rw [refreshActive_shape, refreshActive_shape, writePixel_cursorAt_display]
    rfl

/-! ### From the block to the state -/

/-- Where the cursor stands after a meaning, and what the meaning does with the cursor elsewhere. -/
def MeaningIgnoresCursor (m : State → Outcome) (s : State) : Prop :=
  ∀ (row col : U9) (exhausted : Bool), ∃ t, m s = .next t ∧ t.block.rowReg = s.block.rowReg ∧
    t.block.colReg = s.block.colReg ∧ t.block.exhausted = s.block.exhausted ∧ t.block.frame = s.block.frame ∧
    m { s with block := s.block.cursorAt row col exhausted } =
      .next { t with block := t.block.cursorAt row col exhausted }

/-- The cursor is kept because putting it where it stands makes no difference. -/
theorem returnFlag_ignoresCursor {f : Block → Bool × Block} (hf : IgnoresCursor f) (s : State) :
    MeaningIgnoresCursor (returnFlag f) s := by
  obtain ⟨hframe, hmoved⟩ := hf s.block
  have hkept := hmoved s.block.rowReg s.block.colReg s.block.exhausted
  intro row col exhausted
  refine ⟨_, rfl, congrArg (·.2.rowReg) hkept, congrArg (·.2.colReg) hkept, congrArg (·.2.exhausted) hkept, hframe, ?_⟩
  simp only [returnFlag, hmoved]

/-- R240: whether the line is ignored, and how many draws are made, does not depend on the cursor. -/
theorem execRefresh_ignoresCursor (s : State) : MeaningIgnoresCursor execRefresh s := by
  intro row col exhausted
  unfold execRefresh
  rw [show (s.block.cursorAt row col exhausted).modeFlag .ignore = s.block.modeFlag .ignore from rfl]
  split
  · exact returnFlag_ignoresCursor (f := fun k => (false, k)) (fun _ => ⟨rfl, fun _ _ _ => rfl⟩) s row col exhausted
  · exact returnFlag_ignoresCursor (refreshActive_ignoresCursor s.draws) { s with draws := drawsAfter s.block s.draws }
      row col exhausted

/-- Settles O42: neither reads the cursor. -/
theorem scanIgnoresTheCursor : Obligations.ScanIgnoresTheCursor := by
  intro s row col exhausted i hi
  rcases List.mem_pair.mp hi with rfl | rfl
  · exact returnFlag_ignoresCursor hsync_ignoresCursor s row col exhausted
  · exact execRefresh_ignoresCursor s row col exhausted

end Sys2Proof.Machine
end

section
/-! A pass over a window (O38): the cells of a window in the order of the cursor, and what `n` pixels from the window start leave
in the cursor and in the GRAM. -/

namespace Sys2Proof.Machine

/-! ### The cells of a window (R263 to R265) -/

/-- R27: the number of columns of the window. -/
def Block.windowWidth (k : Block) : Nat := k.colEnd.toNat - k.colStart.toNat + 1

/-- R27: the number of rows of the window. -/
def Block.windowHeight (k : Block) : Nat := k.rowEnd.toNat - k.rowStart.toNat + 1

/-- The GRAM row of the `n`-th cell of the window, row by row. -/
def Block.cellRow (k : Block) (n : Nat) : Nat := k.rowStart.toNat + n / k.windowWidth

/-- The GRAM column of the `n`-th cell of the window. -/
def Block.cellCol (k : Block) (n : Nat) : Nat := k.colStart.toNat + n % k.windowWidth

/-- A window inside the GRAM, passed without exchange and without reversal (R264; bit places: log 12). -/
structure Block.PlainWindow (k : Block) : Prop where
  noExchange : k.mac.getLsbD 5 = false
  noReversal : k.mac.getLsbD 6 = false
  cols : k.colStart.toNat ≤ k.colEnd.toNat
  lastCol : k.colEnd.toNat ≤ 239
  rows : k.rowStart.toNat ≤ k.rowEnd.toNat
  lastRow : k.rowEnd.toNat ≤ 319

/-- The next number is in the same row of width `w`, or starts the next row. -/
theorem divMod_succ (n : Nat) {w : Nat} (hw : 0 < w) :
    (n % w + 1 < w ∧ (n + 1) / w = n / w ∧ (n + 1) % w = n % w + 1) ∨
      (n % w + 1 = w ∧ (n + 1) / w = n / w + 1 ∧ (n + 1) % w = 0) := by
  have hn := Nat.div_add_mod n w
  rcases Nat.lt_or_eq_of_le (Nat.mod_lt n hw) with hinside | hend
  · exact .inl ⟨hinside, (Nat.div_mod_unique hw).mpr ⟨by omega, hinside⟩⟩
  · exact .inr ⟨hend, (Nat.div_mod_unique hw).mpr ⟨by rw [Nat.mul_add]; omega, hw⟩⟩

section
variable {k k' : Block} {m n : Nat}

theorem Block.windowWidth_pos (k : Block) : 0 < k.windowWidth := Nat.succ_pos _

/-- A number below the size of the window is a cell of the window. -/
theorem Block.PlainWindow.cell_le (h : k.PlainWindow) (hn : n < k.windowWidth * k.windowHeight) :
    k.cellRow n ≤ k.rowEnd.toNat ∧ k.cellCol n ≤ k.colEnd.toNat := by
  have hrow : n / k.windowWidth < k.windowHeight := Nat.div_lt_of_lt_mul hn
  have hcol : n % k.windowWidth < k.windowWidth := Nat.mod_lt n k.windowWidth_pos
  have hwidth : k.windowWidth = k.colEnd.toNat - k.colStart.toNat + 1 := rfl
  have hheight : k.windowHeight = k.rowEnd.toNat - k.rowStart.toNat + 1 := rfl
  have hrows := h.rows
  have hcols := h.cols
  simp only [cellRow, cellCol]
  omega

/-- The cell after a cell: the next in its row, the first of the next row, or none after the last. -/
theorem Block.PlainWindow.cell_succ (h : k.PlainWindow) (hn : n < k.windowWidth * k.windowHeight) :
    (k.cellCol n < k.colEnd.toNat ∧ n + 1 < k.windowWidth * k.windowHeight ∧ k.cellRow (n + 1) = k.cellRow n ∧
      k.cellCol (n + 1) = k.cellCol n + 1) ∨
    (k.cellCol n = k.colEnd.toNat ∧ k.cellRow n < k.rowEnd.toNat ∧ n + 1 < k.windowWidth * k.windowHeight ∧
      k.cellRow (n + 1) = k.cellRow n + 1 ∧ k.cellCol (n + 1) = k.colStart.toNat) ∨
    (k.cellCol n = k.colEnd.toNat ∧ k.cellRow n = k.rowEnd.toNat ∧ n + 1 = k.windowWidth * k.windowHeight) := by
  have hmore : (n + 1) / k.windowWidth < k.windowHeight ↔ n + 1 < k.windowWidth * k.windowHeight := by
    rw [Nat.mul_comm]
    exact Nat.div_lt_iff_lt_mul k.windowWidth_pos
  have hrow : n / k.windowWidth < k.windowHeight := Nat.div_lt_of_lt_mul hn
  have hwidth : k.windowWidth = k.colEnd.toNat - k.colStart.toNat + 1 := rfl
  have hheight : k.windowHeight = k.rowEnd.toNat - k.rowStart.toNat + 1 := rfl
  have hrows := h.rows
  have hcols := h.cols
  simp only [cellRow, cellCol]
  rcases divMod_succ n k.windowWidth_pos with ⟨hinside, hdiv, hmod⟩ | ⟨hend, hdiv, hmod⟩
  · rw [hdiv] at hmore ⊢
    rw [hmod]
    exact .inl ⟨by omega, hmore.mp hrow, rfl, rfl⟩
  · rw [hdiv] at hmore ⊢
    rw [hmod]
    rcases Nat.lt_or_eq_of_le hrow with hnext | hlast
    · exact .inr (.inl ⟨by omega, by omega, hmore.mp hnext, rfl, rfl⟩)
    · exact .inr (.inr ⟨by omega, by omega, by omega⟩)

/-- Two cells of a window are different. -/
theorem Block.cell_inj (hrow : k.cellRow m = k.cellRow n) (hcol : k.cellCol m = k.cellCol n) : m = n := by
  rw [cellRow, cellRow, Nat.add_left_cancel_iff] at hrow
  rw [cellCol, cellCol, Nat.add_left_cancel_iff] at hcol
  rw [← Nat.div_add_mod m k.windowWidth, hrow, hcol, Nat.div_add_mod]

/-! ### The cursor in a pass (R263 to R266) -/

/-- The cursor of a block after `n` pixels of a pass over its window. -/
structure Block.CursorAfter (k : Block) (n : Nat) : Prop where
  exhausted : k.exhausted = decide (n = k.windowWidth * k.windowHeight)
  row : n < k.windowWidth * k.windowHeight → k.rowReg.toNat = k.cellRow n
  col : n < k.windowWidth * k.windowHeight → k.colReg.toNat = k.cellCol n

/-- R263 to R266: one pixel more. -/
theorem Block.PlainWindow.cursorAfter_succ (h : k.PlainWindow) (hn : n < k.windowWidth * k.windowHeight)
    (hcursor : k.CursorAfter n) (x y z : Byte) : (storePixel x y z k).CursorAfter (n + 1) := by
  have hopen : k.exhausted = false := hcursor.exhausted.trans (decide_eq_false (Nat.ne_of_lt hn))
  have hadvanced := cursorAdvanced_storePixel x y z hopen
  rw [storePixel_shape] at hadvanced ⊢
  obtain ⟨hplain, -⟩ := hadvanced
  obtain ⟨hinside, hlast, hline⟩ := hplain h.noExchange
  have hrow := hcursor.row hn
  have hcol := hcursor.col hn
  have hlastCol := h.lastCol
  have hlastRow := h.lastRow
  rcases h.cell_succ hn with ⟨hlt, hmore, hsameRow, hnextCol⟩ | ⟨hcolEnd, hlt, hmore, hnextRow, hfirstCol⟩ |
    ⟨hcolEnd, hrowEnd, hdone⟩
  · obtain ⟨hex, hrow', hcol'⟩ := hinside (BitVec.toNat_ne.mpr (by omega))
    rw [h.noReversal, if_neg Bool.false_ne_true] at hcol'
    exact ⟨hex.trans (decide_eq_false (Nat.ne_of_lt hmore)).symm,
      fun _ => (congrArg BitVec.toNat hrow').trans (hrow.trans hsameRow.symm),
      fun _ => hcol'.trans (by show _ = k.cellCol (n + 1); omega)⟩
  · obtain ⟨hex, hcol', hrow'⟩ := hline (BitVec.eq_of_toNat_eq (hcol.trans hcolEnd)) (.inl (BitVec.toNat_ne.mpr (by omega)))
    exact ⟨hex.trans (decide_eq_false (Nat.ne_of_lt hmore)).symm,
      fun _ => hrow'.trans (by show _ = k.cellRow (n + 1); omega),
      fun _ => (congrArg BitVec.toNat hcol').trans hfirstCol.symm⟩
  · obtain ⟨hex, -, -⟩ := hlast (BitVec.eq_of_toNat_eq (hcol.trans hcolEnd)) (BitVec.eq_of_toNat_eq (hrow.trans hrowEnd))
      h.cols h.rows
    exact ⟨hex.trans (decide_eq_true hdone).symm, fun hmore => absurd hdone (Nat.ne_of_lt hmore),
      fun hmore => absurd hdone (Nat.ne_of_lt hmore)⟩

/-! ### The GRAM in a pass (R262) -/

/-- R262: a store leaves its triplet in the cursor's cell. -/
theorem storePixel_frameLane (x y z : Byte) (hopen : k.exhausted = false) (hrow : k.rowReg.toNat < 320)
    (hcol : k.colReg.toNat < 240) :
    (storePixel x y z k).frameLane k.rowReg.toNat k.colReg.toNat 0 = x ∧
      (storePixel x y z k).frameLane k.rowReg.toNat k.colReg.toNat 1 = y ∧
      (storePixel x y z k).frameLane k.rowReg.toNat k.colReg.toNat 2 = z := by
  have hin : cursorInGram k = true := by simp [cursorInGram, hrow, hcol]
  obtain ⟨hred, hgreen, hblue, -⟩ := putFrame_read k k.rowReg.toNat k.colReg.toNat x y z
  simp only [Block.frameLane, storePixel_frame x y z hopen, if_pos hin]
  exact ⟨hred, hgreen, hblue⟩

/-- R262: a store leaves every other cell as it was. -/
theorem storePixel_frameLane_ne (x y z : Byte) {row col lane : Nat} (hcol : k.colReg.toNat < 240) (hcol' : col < 240)
    (hlane : lane < 3) (hne : ¬ (row = k.rowReg.toNat ∧ col = k.colReg.toNat)) :
    (storePixel x y z k).frameLane row col lane = k.frameLane row col lane := by
  refine storePixel_frame_read_ne x y z k fun lane' hlane' haddr => hne ?_
  obtain ⟨hsameRow, hsameCol, -⟩ := frameAddr_inj hcol' hcol (by omega) (by omega) haddr
  exact ⟨hsameRow, hsameCol⟩

/-- R262: of a block whose GRAM and cursor alone may have changed, a store changes no more. -/
theorem storePixel_withCursor (x y z : Byte) (h : k' = k.withCursor k'.frame k'.rowReg k'.colReg k'.exhausted) :
    storePixel x y z k' = k.withCursor (storePixel x y z k').frame (storePixel x y z k').rowReg
      (storePixel x y z k').colReg (storePixel x y z k').exhausted :=
  (storePixel_shape x y z k').trans (congrArg (fun k₁ => k₁.withCursor (storePixel x y z k').frame
    (storePixel x y z k').rowReg (storePixel x y z k').colReg (storePixel x y z k').exhausted) h)

/-- R234, R237: a cell holds the channels of an 18-bpp pixel, replicated to 8 bits. -/
def Block.CellHolds (k : Block) (row col : Nat) (p : Byte × Byte × Byte) : Prop :=
  k.frameLane row col 0 = replicate6 p.1 ∧ k.frameLane row col 1 = replicate6 p.2.1 ∧
    k.frameLane row col 2 = replicate6 p.2.2

/-- The store of an 18-bpp pixel. -/
def storeReplicated (p : Byte × Byte × Byte) (k : Block) : Block :=
  storePixel (replicate6 p.1) (replicate6 p.2.1) (replicate6 p.2.2) k

/-- R234: an 18-bpp call in its range. -/
theorem pixel18_storeReplicated {p : Byte × Byte × Byte} (h : p.1.toNat < 64 ∧ p.2.1.toNat < 64 ∧ p.2.2.toNat < 64)
    (k : Block) : pixel18 p.1 p.2.1 p.2.2 k = .ok (storeReplicated p k) := by
  obtain ⟨hr, hg, hb⟩ := h
  rw [pixel18_ok ⟨hr, hg, hb⟩, expand6_eq _ hr, expand6_eq _ hg, expand6_eq _ hb]
  rfl

/-- The block after these pixels of a pass over its window: where the cursor stands, and pixel `n` in cell `n`. -/
structure Block.PassedOver (k : Block) (pixels : List (Byte × Byte × Byte)) : Prop where
  cursor : k.CursorAfter pixels.length
  cells : ∀ n p, pixels[n]? = some p → k.CellHolds (k.cellRow n) (k.cellCol n) p

variable {pixels : List (Byte × Byte × Byte)}

/-- R262 to R266: one pixel more, in its own cell. -/
theorem Block.PassedOver.concat (hwindow : k.PlainWindow) (h : k.PassedOver pixels)
    (hlen : pixels.length < k.windowWidth * k.windowHeight) (p : Byte × Byte × Byte) :
    (storeReplicated p k).PassedOver (pixels ++ [p]) := by
  have hopen : k.exhausted = false := h.cursor.exhausted.trans (decide_eq_false (Nat.ne_of_lt hlen))
  have hrow := h.cursor.row hlen
  have hcol := h.cursor.col hlen
  have hlastCol := hwindow.lastCol
  have hlastRow := hwindow.lastRow
  obtain ⟨hrowEnd, hcolEnd⟩ := hwindow.cell_le hlen
  have hcellRow (n : Nat) : (storeReplicated p k).cellRow n = k.cellRow n := by
    rw [storeReplicated, storePixel_shape]
    rfl
  have hcellCol (n : Nat) : (storeReplicated p k).cellCol n = k.cellCol n := by
    rw [storeReplicated, storePixel_shape]
    rfl
  refine ⟨?_, fun n q hq => ?_⟩
  · rw [List.length_append]
    exact hwindow.cursorAfter_succ hlen h.cursor _ _ _
  · rw [hcellRow, hcellCol]
    rcases Nat.lt_trichotomy n pixels.length with hbefore | rfl | hafter
    · rw [List.getElem?_append_left hbefore] at hq
      obtain ⟨-, hcolEnd'⟩ := hwindow.cell_le (n := n) (by omega)
      have hother : ¬ (k.cellRow n = k.rowReg.toNat ∧ k.cellCol n = k.colReg.toNat) := by
        rw [hrow, hcol]
        rintro ⟨hsameRow, hsameCol⟩
        exact absurd (cell_inj hsameRow hsameCol) (Nat.ne_of_lt hbefore)
      have hkept (lane : Nat) (hlane : lane < 3) := storePixel_frameLane_ne (replicate6 p.1) (replicate6 p.2.1)
        (replicate6 p.2.2) (by omega) (by omega) hlane hother
      obtain ⟨hred, hgreen, hblue⟩ := h.cells n q hq
      exact ⟨(hkept 0 (by omega)).trans hred, (hkept 1 (by omega)).trans hgreen, (hkept 2 (by omega)).trans hblue⟩
    · obtain rfl : p = q := by simpa using hq
      rw [← hrow, ← hcol]
      exact storePixel_frameLane _ _ _ hopen (by omega) (by omega)
    · rw [List.getElem?_eq_none (by simpa using hafter)] at hq
      cases hq

end

/-! ### The run (R262 to R266) -/

/-- A pixel as the call that stores it. -/
def pixelCall (p : Byte × Byte × Byte) : Op := .pixel18 p.1 p.2.1 p.2.2

theorem step_pixelCall {s : State} {p : Byte × Byte × Byte} {rest : List Op} (hpending : s.pending = pixelCall p :: rest)
    (hrange : p.1.toNat < 64 ∧ p.2.1.toNat < 64 ∧ p.2.2.toNat < 64) :
    step s = .next { s.taken rest with block := storeReplicated p s.block } := by
  rw [step_pixel18 hpending]
  exact onBlockChecked_ok (pixel18_storeReplicated hrange s.block)

theorem Block.PlainWindow.withCursor {k : Block} (h : k.PlainWindow) (frame : Memory) (row col : U9) (exhausted : Bool) :
    (k.withCursor frame row col exhausted).PlainWindow :=
  ⟨h.noExchange, h.noReversal, h.cols, h.lastCol, h.rows, h.lastRow⟩

/-- R261: a cursor at the window start has passed over nothing yet. -/
theorem Block.passedOver_nil {k : Block} (hrow : k.rowReg = k.rowStart) (hcol : k.colReg = k.colStart)
    (hopen : k.exhausted = false) : k.PassedOver [] where
  cursor :=
    { exhausted := hopen.trans (decide_eq_false (Nat.mul_pos k.windowWidth_pos (Nat.succ_pos _)).ne).symm
      row := fun _ => by rw [hrow, cellRow, List.length_nil, Nat.zero_div, Nat.add_zero]
      col := fun _ => by rw [hcol, cellCol, List.length_nil, Nat.zero_mod, Nat.add_zero] }
  cells := nofun

/-- The pixels of a pass, one after the other. -/
theorem run_pixelCalls {s : State} (hwindow : s.block.PlainWindow) (hstart : s.block.PassedOver [])
    {pixels : List (Byte × Byte × Byte)} (hrange : ∀ p ∈ pixels, p.1.toNat < 64 ∧ p.2.1.toNat < 64 ∧ p.2.2.toNat < 64)
    (hlen : pixels.length ≤ s.block.windowWidth * s.block.windowHeight) (rest : List Op) :
    ∃ t, run pixels.length { s with pending := pixels.map pixelCall ++ rest } = .next t ∧ t.pending = rest ∧
      t.block = s.block.withCursor t.block.frame t.block.rowReg t.block.colReg t.block.exhausted ∧
      t.block.PassedOver pixels := by
  induction pixels using List.reverseRecOn generalizing rest with
  | nil => exact ⟨_, run_zero, rfl, rfl, hstart⟩
  | append_singleton ps p ih =>
    rw [List.length_append] at hlen
    have hless : ps.length < s.block.windowWidth * s.block.windowHeight := hlen
    obtain ⟨t, hrun, hpending, hkept, hpassed⟩ :=
      ih (fun q hq => hrange q (List.mem_append_left [p] hq)) hless.le (pixelCall p :: rest)
    have hcalls : (ps ++ [p]).map pixelCall ++ rest = ps.map pixelCall ++ pixelCall p :: rest := by simp
    have hwindow' : t.block.PlainWindow := hkept ▸ hwindow.withCursor _ _ _ _
    have hless' : ps.length < t.block.windowWidth * t.block.windowHeight := by
      rw [hkept]
      exact hless
    refine ⟨{ t.taken rest with block := storeReplicated p t.block }, ?_, rfl, ?_, hpassed.concat hwindow' hless' p⟩
    · rw [List.length_append, hcalls, run_add_of_next _ hrun, List.length_singleton, run_one]
      exact step_pixelCall hpending (hrange p (List.mem_append_right ps (List.mem_singleton.mpr rfl)))
    · exact storePixel_withCursor _ _ _ hkept

/-- Settles O38, by the calls of the pass: each stores its pixel in the cell of its number and moves the cursor to the next. -/
theorem windowPassFillsTheWindow : Obligations.WindowPassFillsTheWindow := by
  intro s pixels rest hnoExchange hnoReversal hcols hlastCol hrows hlastRow hrow hcol hopen hrange width height hlen
  obtain ⟨t, hrun, -, hkept, hpassed⟩ := run_pixelCalls ⟨hnoExchange, hnoReversal, hcols, hlastCol, hrows, hlastRow⟩
    (Block.passedOver_nil hrow hcol hopen) hrange hlen rest
  have hsize : t.block.windowWidth * t.block.windowHeight = width * height :=
    congrArg (fun k => k.windowWidth * k.windowHeight) hkept
  have hcellRow (n : Nat) : t.block.cellRow n = s.block.rowStart.toNat + n / width := congrArg (fun k => k.cellRow n) hkept
  have hcellCol (n : Nat) : t.block.cellCol n = s.block.colStart.toNat + n % width := congrArg (fun k => k.cellCol n) hkept
  obtain ⟨⟨hexhausted, hcursorRow, hcursorCol⟩, hcells⟩ := hpassed
  rw [hsize] at hexhausted hcursorRow hcursorCol
  refine ⟨t, hrun, hexhausted, fun hless => ?_, fun n p hp => ?_⟩
  · rw [hcursorRow hless, hcursorCol hless, hcellRow, hcellCol]
    exact ⟨rfl, rfl⟩
  · rw [← hcellRow, ← hcellCol]
    exact hcells n p hp

end Sys2Proof.Machine
end

section
/-! The mass-storage responder (O49 to O51): what a write and each read do, and the reads of an INQUIRY exchange in their order. -/

namespace Sys2Proof.Machine

/-! ### A write (R281) -/

/-- R281: what a byte of the accumulator holds after a write. -/
theorem msWrite_cbw_getElem (v : Byte) (k : Block) (i : Fin 32) :
    (msWrite v k).cbw[i] = if i.val = k.cbwIndex.toNat then v else k.cbw[i] := by
  simp only [msWrite, Fin.getElem_fin, Vector.getElem_set, eq_comm (a := i.val)]

/-- R281: the index wraps around after 32 bytes. -/
theorem msWrite_cbwIndex (v : Byte) (k : Block) :
    (msWrite v k).cbwIndex = BitVec.ofNat 5 ((k.cbwIndex.toNat + 1) % 32) :=
  BitVec.eq_of_toNat_eq (by simp [msWrite, BitVec.toNat_add])

theorem exec_outMassStorage (v : Byte) (s : State) : exec (.outMassStorage v) s = onBlock (msWrite v) s := rfl

/-- Settles O49: the index is the accumulator's length wide, so the byte always has a place. -/
theorem massStorageAppends : Obligations.MassStorageAppends := by
  intro s v
  refine ⟨(msWrite v s.block).cbw, ?_, msWrite_cbw_getElem v s.block⟩
  rw [exec_outMassStorage, ← msWrite_cbwIndex v s.block]
  rfl

/-! ### The three outcomes of a read (R282 to R286) -/

theorem exec_inMassStorage (peek : Bool) (s : State) : exec (.inMassStorage peek) s = returnByte msRead s := rfl

section
variable (k : Block)

/-- R284: a status build writes the bytes of the wrapper. -/
theorem msBuildStatus_csw_getElem (i : Fin 16) : (msBuildStatus k).csw[i] = statusByte k i := by
  simp [msBuildStatus]

/-- R284: the wrapper begins with the bytes of the block, all but byte 3. -/
theorem msBuildStatus_csw_echo (i : Fin 16) (h : i.val < 8 ∧ i.val ≠ 3) :
    (msBuildStatus k).csw[i] = k.cbw[i.val] := by
  obtain ⟨hlow, hne⟩ := h
  rw [msBuildStatus_csw_getElem, statusByte_eq, if_neg hne, dif_pos hlow]

/-- R284: byte 3 makes the signature 'U' 'S' 'B' 'S'. -/
theorem msBuildStatus_csw_three : (msBuildStatus k).csw[3] = 0x53 := msBuildStatus_csw_getElem k 3

/-- R284: the rest of the wrapper is 0 up to byte 12 and kept behind it. -/
theorem msBuildStatus_csw_tail_getElem {i : Fin 16} (h : 8 ≤ i.val) :
    (msBuildStatus k).csw[i] = if i.val ≤ 12 then 0 else k.csw[i] := by
  rw [msBuildStatus_csw_getElem, statusByte_eq, if_neg (by omega), dif_neg (by omega)]
  exact if_congr Nat.lt_succ_iff rfl rfl

/-- R107, R282: what the other blocks begin with. -/
theorem hasSignature_eq_false_iff :
    hasSignature k = false ↔ ¬ (k.cbw[0] = 0x55 ∧ k.cbw[1] = 0x53 ∧ k.cbw[2] = 0x42 ∧ k.cbw[3] = 0x43) := by
  rw [← hasSignature_iff, Bool.not_eq_true]

/-- R285: a cleared accumulator holds no block. -/
theorem hasSignature_msClearAccumulator : hasSignature (msClearAccumulator k) = false := rfl

end

/-- Settles O50: the outcomes are those of the law of `msRead`, one each. -/
theorem massStorageReads : Obligations.MassStorageReads := by
  intro s peek
  rw [exec_inMassStorage, returnByte]
  refine ⟨fun hpending => ?_, fun hnone hsignature => ?_, fun hnone hother => ?_⟩
  · rw [msRead_pending hpending]
    rfl
  · have hkept : (if s.block.cbw[15] = 0x12 then 54 else 0) =
        if s.block.cbw[15] = 0x12 then Config.inquiryLength else s.block.dataLength := by rw [hnone]
    refine ⟨(msBuildStatus s.block).csw, ?_, ?_⟩
    · rw [msRead_block hnone ((hasSignature_iff _).mpr hsignature), hkept]
      simp only [msClearAccumulator, msBuildStatus]
    · have hecho := msBuildStatus_csw_echo s.block
      exact ⟨hecho 0 (by decide), hecho 1 (by decide), hecho 2 (by decide), msBuildStatus_csw_three s.block,
        hecho 4 (by decide), hecho 5 (by decide), hecho 6 (by decide), hecho 7 (by decide),
        fun _ => msBuildStatus_csw_tail_getElem s.block⟩
  · rw [msRead_clear hnone ((hasSignature_eq_false_iff _).mpr hother)]
    rfl

/-! ### The reads of an INQUIRY exchange -/

/-- R283: the byte that the read after `n` bytes of the response returns. -/
def responseByte (n : Nat) : Byte := if n < 54 then Config.inquiryData n else 0

/-- R283: the responder after `n` reads of the response, of which the first 54 find a byte. -/
structure Block.AnsweringInquiry (k : Block) (n : Nat) : Prop where
  route : k.route = 1
  noBlock : hasSignature k = false
  offset : k.dataOffset = min n 54
  length : k.dataLength = 54 - n

/-- R282 to R285: a read leaves the register file alone, and with it the route. -/
theorem msRead_route (k : Block) : (msRead k).2.route = k.route := by
  have hregs : (msRead k).2.regs = k.regs := by
    unfold msRead
    split
    · rfl
    · split <;> simp only [msClearAccumulator, msBuildStatus]
  rw [Block.route, hregs, Block.route]

/-- R282, R284, R285: the first read after an INQUIRY block returns 0 and arms the response. -/
theorem msRead_inquiry {k : Block} (hroute : k.route = 1) (hnone : k.dataLength = 0) (hsignature : hasSignature k = true)
    (hcode : k.cbw[15] = 0x12) : (msRead k).1 = 0 ∧ (msRead k).2.AnsweringInquiry 0 := by
  have hkept := (msRead_route k).trans hroute
  rw [msRead_block hnone hsignature] at hkept ⊢
  exact ⟨rfl, hkept, hasSignature_msClearAccumulator _, if_pos hcode, if_pos hcode⟩

/-- R282, R283: a read while the response is pending takes its next byte, and a later one finds neither response nor block. -/
theorem Block.AnsweringInquiry.msRead {k : Block} {n : Nat} (h : k.AnsweringInquiry n) :
    (msRead k).1 = responseByte n ∧ (msRead k).2.AnsweringInquiry (n + 1) := by
  obtain ⟨hroute, hnoBlock, hoffset, hlength⟩ := h
  rw [← msRead_route] at hroute
  rcases lt_or_ge n 54 with hpending | hdrained
  · rw [msRead_pending (by omega)] at hroute ⊢
    have hbyte : Config.inquiryData k.dataOffset = responseByte n := by
      rw [responseByte, if_pos hpending, hoffset, min_eq_left hpending.le]
    exact ⟨hbyte, hroute, hnoBlock, by dsimp only [msPop]; omega, by dsimp only [msPop]; omega⟩
  · rw [msRead_clear (by omega) hnoBlock] at hroute ⊢
    have hbyte : 0 = responseByte n := (if_neg (by omega)).symm
    exact ⟨hbyte, hroute, hasSignature_msClearAccumulator k, by dsimp only [msClearAccumulator]; omega,
      by dsimp only [msClearAccumulator]; omega⟩

/-- R125, R280: a read of the data port on the mass-storage path of revision M. -/
theorem step_msRead {s : State} {peek : Bool} {rest : List Op} (hpending : s.pending = .portRead 0x18 peek :: rest)
    (hroute : s.block.route = 1) (hrevision : s.effectiveRevision = .m) : step s = returnByte msRead (s.taken rest) := by
  have hdecode : decodeOp s.context (.portRead 0x18 peek) = .inMassStorage peek := by
    rw [State.context, hroute, hrevision]
    rfl
  rw [step_cons hpending, hdecode, exec_inMassStorage]

/-- The byte that the read after `n` reads of an exchange returns. -/
def exchangeByte : Nat → Byte
  | 0 => 0
  | n + 1 => responseByte n

theorem exchangeByte_eq {n : Nat} (h : n ≤ 55) :
    exchangeByte n = if n = 0 ∨ n = 55 then 0 else Config.inquiryData (n - 1) := by
  cases n with
  | zero => rfl
  | succ n =>
    rw [exchangeByte, responseByte, ← ite_not]
    exact if_congr (by omega) rfl rfl

/-- R282 to R285: the reads after an INQUIRY block, one after the other. -/
theorem run_inquiryReads {s : State} (hroute : s.block.route = 1) (hrevision : s.effectiveRevision = .m)
    (hnone : s.block.dataLength = 0) (hsignature : hasSignature s.block = true) (hcode : s.block.cbw[15] = 0x12) (n : Nat)
    (rest : List Op) :
    ∃ t, run (n + 1) { s with pending := List.replicate (n + 1) (.portRead 0x18 false) ++ rest } = .next t ∧
      t.pending = rest ∧ t.effectiveRevision = .m ∧ t.result = some (.byte (exchangeByte n)) ∧ t.block.AnsweringInquiry n := by
  induction n generalizing rest with
  | zero =>
    obtain ⟨hbyte, hanswering⟩ := msRead_inquiry hroute hnone hsignature hcode
    exact ⟨_, run_one.trans (step_msRead rfl hroute hrevision), rfl, hrevision,
      congrArg (fun b => some (Result.byte b)) hbyte, hanswering⟩
  | succ n ih =>
    obtain ⟨t, hrun, hpending, hrevision, -, hanswering⟩ := ih (.portRead 0x18 false :: rest)
    obtain ⟨hbyte, hnext⟩ := hanswering.msRead
    have hops : List.replicate (n + 1 + 1) (Op.portRead 0x18 false) ++ rest =
        List.replicate (n + 1) (.portRead 0x18 false) ++ .portRead 0x18 false :: rest := by
      rw [List.replicate_succ', List.append_assoc]
      rfl
    refine ⟨{ t.taken rest with block := (msRead t.block).2, result := some (.byte (msRead t.block).1) }, ?_, rfl, hrevision,
      congrArg (fun b => some (Result.byte b)) hbyte, hnext⟩
    rw [hops, run_add_of_next 1 hrun, run_one, step_msRead hpending hanswering.route hrevision]
    rfl

/-- Settles O51, by the reads of the exchange: one arms the response, 54 drain it, and the next finds no block. -/
theorem inquiryExchange : Obligations.InquiryExchange := by
  intro s n rest hn hroute hrevision hnone hsignature hcode
  obtain ⟨t, hrun, -, -, hresult, hanswering⟩ :=
    run_inquiryReads hroute hrevision hnone ((hasSignature_iff _).mpr hsignature) hcode n rest
  exact ⟨t, hrun, exchangeByte_eq hn ▸ hresult, hanswering.length⟩

end Sys2Proof.Machine
end

section
/-! Revision state and snapshot (O53 to O55): where the effective revision is read, and what SETDEV, SETREV, SAVE and RESTORE
leave. -/

namespace Sys2Proof.Machine

/-! ### No meaning reads the effective revision (R303) -/

/-- How a meaning ends when the effective revision is `q` in the state it ends in. -/
def Outcome.withRevision (q : Revision) : Outcome → Outcome
  | .next t => .next { t with effectiveRevision := q }
  | .fault e => .fault e
  | .refused r => .refused r

/-- A meaning neither reads nor writes the effective revision. -/
def IgnoresRevision (m : State → Outcome) : Prop :=
  ∀ (s : State) (q : Revision), m { s with effectiveRevision := q } = Outcome.withRevision q (m s)

theorem onBlockChecked_ignoresRevision (f : Block → Except Fault Block) : IgnoresRevision (onBlockChecked f) := by
  intro s q
  unfold onBlockChecked
  dsimp only
  cases f s.block <;> rfl

theorem execRefresh_ignoresRevision : IgnoresRevision execRefresh := by
  intro s q
  unfold execRefresh
  dsimp only
  split <;> rfl

theorem execRestore_ignoresRevision (ioOk : Bool) : IgnoresRevision (execRestore ioOk) := by
  intro s q
  unfold execRestore
  rw [show streamRecord ioOk { s with effectiveRevision := q } = streamRecord ioOk s from rfl]
  split <;> rfl

/-- R301, R303: the power-on reset alone writes the effective revision; every other row completes with a new block or a result,
or is one of the three meanings above. -/
theorem exec_ignoresRevision {i : Instr} (hreset : i ≠ .reset) : IgnoresRevision (exec i) := by
  cases i with
  | reset => exact absurd rfl hreset
  | outLcd v => exact onBlockChecked_ignoresRevision (lcdShift v)
  | ramwrParam b | ramwrcParam b => exact onBlockChecked_ignoresRevision (pixelParamFrame b)
  | pix18 r g b => exact onBlockChecked_ignoresRevision (pixel18 r g b)
  | pix16 r g b => exact onBlockChecked_ignoresRevision (pixel16 r g b)
  | pix12 r g b => exact onBlockChecked_ignoresRevision (pixel12 r g b)
  | refresh => exact execRefresh_ignoresRevision
  | restore ioOk => exact execRestore_ignoresRevision ioOk
  | _ => exact fun _ _ => rfl

/-- R301: the power-on reset writes what the request resolves to, whatever was there. -/
theorem exec_withRevision (i : Instr) (s : State) (q : Revision) :
    ∃ q', exec i { s with effectiveRevision := q } = Outcome.withRevision q' (exec i s) := by
  by_cases hreset : i = .reset
  · subst hreset
    exact ⟨resolveRevision s.requestedRevision, rfl⟩
  · exact ⟨q, exec_ignoresRevision hreset s q⟩

/-! ### The decoder reads it on the mass-storage route of the data port (R91, R280, R287) -/

/-- R109: an operation that reaches the data port, a frame by its three writes. -/
def OnDataPort (op : Op) : Prop :=
  (∃ v, op = .portWrite 0x18 v) ∨ (∃ peek, op = .portRead 0x18 peek) ∨ ∃ f, op = .frame f

section
variable (x : Context) (m : Bool)

theorem decodeDataWrite_revisionM (hroute : x.route ≠ 1) (v : Byte) :
    decodeDataWrite { x with revisionM := m } v = decodeDataWrite x v := by
  simp only [decodeDataWrite, if_neg hroute]

theorem decodeDataRead_revisionM (hroute : x.route ≠ 1) (peek : Bool) :
    decodeDataRead { x with revisionM := m } peek = decodeDataRead x peek := by
  simp only [decodeDataRead, if_neg hroute]

theorem decodePortWrite_off_dataPort {port : U16} (hport : port ≠ 0x18) (v : Byte) :
    decodePortWrite { x with revisionM := m } port v = decodePortWrite x port v := by
  have hdata : port.toNat ≠ 0x18 := fun h => hport (BitVec.eq_of_toNat_eq h)
  simp only [decodePortWrite, if_neg hdata]

theorem decodePortRead_off_dataPort {port : U16} (hport : port ≠ 0x18) (peek : Bool) :
    decodePortRead { x with revisionM := m } port peek = decodePortRead x port peek := by
  have hdata : port.toNat ≠ 0x18 := fun h => hport (BitVec.eq_of_toNat_eq h)
  simp only [decodePortRead, if_neg hdata]

/-- R91: away from the mass-storage route, or from the data port, the row of an operation is the same on every revision. -/
theorem decodeOp_revisionM {op : Op} (h : x.route ≠ 1 ∨ ¬ OnDataPort op) :
    decodeOp { x with revisionM := m } op = decodeOp x op := by
  cases op with
  | portWrite port v =>
    by_cases hport : port = 0x18
    · subst hport
      exact decodeDataWrite_revisionM x m (h.resolve_right (not_not_intro (.inl ⟨v, rfl⟩))) v
    · exact decodePortWrite_off_dataPort x m hport v
  | portRead port peek =>
    by_cases hport : port = 0x18
    · subst hport
      exact decodeDataRead_revisionM x m (h.resolve_right (not_not_intro (.inr (.inl ⟨peek, rfl⟩)))) peek
    · exact decodePortRead_off_dataPort x m hport peek
  | _ => rfl

end

/-- R303: the row of an operation is the same on revisions A and I. -/
theorem context_of_not_m {s : State} {q : Revision} (hs : s.effectiveRevision ≠ .m) (hq : q ≠ .m) :
    State.context { s with effectiveRevision := q } = s.context := by
  simp only [State.context, hs, hq]

/-! ### The step -/

/-- A step that decodes its operation to the same row does the same, whatever it leaves as the effective revision. -/
theorem step_withRevision {s : State} {q : Revision}
    (h : ∀ op rest, s.block.due s.pending = op :: rest →
      decodeOp (State.context { s with effectiveRevision := q }) op = decodeOp s.context op) :
    ∃ q', step { s with effectiveRevision := q } = Outcome.withRevision q' (step s) := by
  cases hdue : s.block.due s.pending with
  | nil => exact ⟨q, by simp only [step, hdue, Outcome.withRevision]⟩
  | cons op rest =>
    rw [step_due hdue, step_due (s := { s with effectiveRevision := q }) hdue, h op rest hdue]
    exact exec_withRevision (decodeOp s.context op) (s.taken rest) q

/-- Settles O54: no meaning reads the effective revision, and the decoder gives what is due the same row in both states: they
have the same context, or what is due is not on the route where the context's revision is read. -/
theorem revisionGatesOnlyTheResponder : Obligations.RevisionGatesOnlyTheResponder := by
  intro s q op rest hpending hscope
  obtain ⟨q', hstep⟩ : ∃ q', step { s with effectiveRevision := q } = Outcome.withRevision q' (step s) := by
    refine step_withRevision fun op' rest' hdue => ?_
    rcases hscope with ⟨hs, hq⟩ | hoff
    · rw [context_of_not_m hs hq]
    · refine decodeOp_revisionM s.context _ ?_
      by_cases hroute : s.block.regs[0x12] = 1
      · have hport : ¬ OnDataPort op := fun hop => hoff ⟨hroute, hop⟩
        rw [hpending, Block.due_issued fun f hf => absurd (.inr (.inr ⟨f, hf⟩)) hport] at hdue
        cases hdue
        exact .inr hport
      · exact .inl hroute
  exact ⟨fun t ht => ⟨q', by rw [hstep, ht]; rfl⟩, fun e he => by rw [hstep, he]; rfl, fun e he => by rw [hstep, he]; rfl⟩

/-! ### The setters (R300) -/

theorem exec_setdev (d : DeviceType) (s : State) : exec (.setdev d) s = .next { s with deviceType := d } := rfl

theorem exec_setrev (r : RequestedRevision) (s : State) : exec (.setrev r) s = .next { s with requestedRevision := r } := rfl

/-- Settles O53: the effective revision is another field. -/
theorem settersWriteTheirElement : Obligations.SettersWriteTheirElement :=
  fun s d r => ⟨exec_setdev d s, exec_setrev r s⟩

/-! ### The snapshot (R304 to R307, R323) -/

theorem exec_save (ioOk : Bool) (s : State) :
    exec (.save ioOk) s = .next { s with stream := streamAfterSave ioOk s, result := some (.flag ioOk) } := rfl

/-- R305: a whole record takes the block's place. -/
theorem exec_restore_some {ioOk : Bool} {s : State} {record : Block} (h : streamRecord ioOk s = some record) :
    exec (.restore ioOk) s = .next { s with block := record, result := some (.flag true) } := by
  change execRestore ioOk s = _
  rw [execRestore, h]

/-- R323: a get that delivers no whole record changes nothing in the block. -/
theorem exec_restore_none {ioOk : Bool} {s : State} (h : streamRecord ioOk s = none) :
    exec (.restore ioOk) s = .next { s with result := some (.flag false) } := by
  change execRestore ioOk s = _
  rw [execRestore, h]

/-- Settles O55: what a save puts in the stream is the block, and a restore takes the record as it is. -/
theorem saveThenRestore : Obligations.SaveThenRestore := by
  refine ⟨fun x => ⟨exec_save true x, exec_save false x, exec_restore_none rfl, fun hempty => exec_restore_none hempty⟩,
    fun x record hrecord => exec_restore_some hrecord, fun x x' y hsave hstream => ?_⟩
  rw [exec_save] at hsave
  cases hsave
  exact exec_restore_some hstream

end Sys2Proof.Machine
end

section
/-! How a step stops (O57, O13): the rows that can fault and the rows that are refused, and through the encoding the operations
that are issued as these rows. -/

namespace Sys2Proof.Machine

/-! ### What a step runs -/

/-- R83: the operation that a step runs is the one issued, unless that is a frame that is not ready: then it is a data-port
write. -/
theorem step_eq_exec {s : State} {op : Op} {rest : List Op} (hpending : s.pending = op :: rest) :
    ∃ op' rest', step s = exec (decodeOp s.context op') (s.taken rest') ∧
      ((op' = op ∧ ∀ f, op = .frame f → s.block.FrameReady) ∨ ∃ f v, op = .frame f ∧ op' = .portWrite 0x18 v) := by
  by_cases hready : ∀ f, op = .frame f → s.block.FrameReady
  · exact ⟨op, rest, step_cons hpending hready, .inl ⟨rfl, hready⟩⟩
  · obtain ⟨f, hf⟩ := not_forall.mp hready
    obtain ⟨rfl, hunready⟩ := Classical.not_imp.mp hf
    exact ⟨.portWrite 0x18 (frameWrite0 f), _, (step_frame_unready hpending hunready).trans (step_cons rfl),
      .inr ⟨f, frameWrite0 f, rfl, rfl⟩⟩

/-- An operation decodes to a row exactly when it is the encoding of that row, well formed and selected by the context. -/
theorem decodeOp_eq_iff {x : Context} {op : Op} {i : Instr} :
    decodeOp x op = i ↔ i.wellFormed = true ∧ i.selectedBy x = true ∧ encode i = op := by
  constructor
  · rintro rfl
    exact everyOperationIsOneRow x op
  · rintro ⟨hwellFormed, hselected, rfl⟩
    exact decodeInvertsEncode x i hwellFormed hselected

/-- R240: a refresh completes, of an ignored line as of an active one. -/
theorem execRefresh_completes (s : State) : ∃ t, execRefresh s = .next t := by
  unfold execRefresh
  split <;> exact ⟨_, rfl⟩

/-- R305: a restore completes, with a whole record or without. -/
theorem execRestore_completes (ioOk : Bool) (s : State) : ∃ t, execRestore ioOk s = .next t := by
  unfold execRestore
  split <;> exact ⟨_, rfl⟩

/-! ### The serial path completes (R231 to R233, R321) -/

/-- R170: under a command that takes no pixel bytes a parameter frame completes whatever the accumulators hold. -/
theorem parameterFrame_completes_of_cmd {k : Block} (hcmd : ¬ (k.cmd = 0x2C ∨ k.cmd = 0x3C)) (b : Byte) :
    ∃ k', parameterFrame b k = .ok k' := by
  unfold parameterFrame
  split
  case h_4 hn => exact absurd (.inl (BitVec.eq_of_toNat_eq hn)) hcmd
  case h_10 hn => exact absurd (.inr (BitVec.eq_of_toNat_eq hn)) hcmd
  all_goals exact ⟨_, rfl⟩

section
variable {k : Block} (hserial : k.SerialOk)
include hserial

/-- R230 to R233: a pixel byte latches or stores, so it completes. -/
theorem pixelParamFrame_completes (hcmd : k.cmd = 0x2C ∨ k.cmd = 0x3C) (b : Byte) : ∃ k', pixelParamFrame b k = .ok k' := by
  rw [pixelParamFrame_eq_map]
  by_cases hcompletes : k.ByteCompletes
  · obtain ⟨_, _, _, _, _, _, hstore⟩ := stores_memoryWriteByte b hserial hcmd hcompletes
    rw [hstore]
    exact ⟨_, rfl⟩
  · obtain ⟨_, _, _, hlatch⟩ := latches_memoryWriteByte b hcompletes
    rw [hlatch]
    exact ⟨_, rfl⟩

theorem runFrame_completes (f : U9) : ∃ k', runFrame f k = .ok k' := by
  unfold runFrame
  split
  · by_cases hcmd : k.cmd = 0x2C ∨ k.cmd = 0x3C
    · rw [parameterFrame_pixel _ hcmd]
      exact pixelParamFrame_completes hserial hcmd _
    · exact parameterFrame_completes_of_cmd hcmd _
  · exact ⟨_, rfl⟩

/-- R123: the shift register is no part of what `SerialOk` asks. -/
theorem lcdShift_completes (v : Byte) : ∃ k', lcdShift v k = .ok k' := by
  unfold lcdShift
  split
  · exact runFrame_completes (k := { k with fifo := 1 }) hserial _
  · exact ⟨_, rfl⟩

end

/-! ### Faults (R321) -/

/-- R321: the pixel-port calls with a channel outside its width, each with its fault. -/
inductive OutOfWidth : Op → Fault → Prop
  | pixel18 {r g b : Byte} (h : 64 ≤ r.toNat ∨ 64 ≤ g.toNat ∨ 64 ≤ b.toNat) : OutOfWidth (.pixel18 r g b) .pixel18Range
  | pixel16 {r g b : Byte} (h : 32 ≤ r.toNat ∨ 64 ≤ g.toNat ∨ 32 ≤ b.toNat) : OutOfWidth (.pixel16 r g b) .pixel16Range
  | pixel12 {r g b : Byte} (h : 16 ≤ r.toNat ∨ 16 ≤ g.toNat ∨ 16 ≤ b.toNat) : OutOfWidth (.pixel12 r g b) .pixel12Range

section
variable {s : State} {k : Block} {e : Fault} {r g b : Byte}

theorem pixel18_error_eq (h : pixel18 r g b k = .error e) : e = .pixel18Range := by
  unfold pixel18 at h
  split at h <;> cases h
  rfl

theorem pixel16_error_eq (h : pixel16 r g b k = .error e) : e = .pixel16Range := by
  unfold pixel16 at h
  split at h <;> cases h
  rfl

theorem pixel12_error_eq (h : pixel12 r g b k = .error e) : e = .pixel12Range := by
  unfold pixel12 at h
  split at h <;> cases h
  rfl

theorem onBlockChecked_ne_fault {f : Block → Except Fault Block} (h : ∃ k, f s.block = .ok k) :
    onBlockChecked f s ≠ .fault e := by
  obtain ⟨k, hk⟩ := h
  rw [onBlockChecked_ok hk]
  nofun

/-- R321: of the rows that the state selects, only a pixel-port call outside its width faults. -/
theorem exec_fault {i : Instr} (hserial : s.block.SerialOk) (hselected : i.selectedBy s.context = true)
    (h : exec i s = .fault e) : OutOfWidth (encode i) e := by
  cases i with
  | pix18 r g b =>
    obtain rfl := pixel18_error_eq (onBlockChecked_fault h)
    obtain ⟨hrange, -, -⟩ := pixelPortFaultsExactly s r g b
    exact .pixel18 (hrange.mp h)
  | pix16 r g b =>
    obtain rfl := pixel16_error_eq (onBlockChecked_fault h)
    obtain ⟨-, hrange, -⟩ := pixelPortFaultsExactly s r g b
    exact .pixel16 (hrange.mp h)
  | pix12 r g b =>
    obtain rfl := pixel12_error_eq (onBlockChecked_fault h)
    obtain ⟨-, -, hrange⟩ := pixelPortFaultsExactly s r g b
    exact .pixel12 (hrange.mp h)
  | outLcd v => exact absurd h (onBlockChecked_ne_fault (lcdShift_completes hserial v))
  | ramwrParam b =>
    have hcmd : s.block.cmd = 0x2C := eq_of_beq hselected
    exact absurd h (onBlockChecked_ne_fault (pixelParamFrame_completes hserial (.inl hcmd) b))
  | ramwrcParam b =>
    have hcmd : s.block.cmd = 0x3C := eq_of_beq hselected
    exact absurd h (onBlockChecked_ne_fault (pixelParamFrame_completes hserial (.inr hcmd) b))
  | refresh =>
    obtain ⟨t, hnext⟩ := execRefresh_completes s
    cases hnext.symm.trans h
  | restore ok =>
    obtain ⟨t, hnext⟩ := execRestore_completes ok s
    cases hnext.symm.trans h
  | _ => cases h

end

/-- Settles O57: the row that the step runs is a pixel-port call outside its width, and so is the operation that was issued. -/
theorem onlyThePixelPortFaults : Obligations.OnlyThePixelPortFaults := by
  intro s e hinv hfault
  cases hpending : s.pending with
  | nil => cases (step_nil hpending).symm.trans hfault
  | cons op rest =>
    obtain ⟨op', rest', hstep, hop⟩ := step_eq_exec hpending
    obtain ⟨-, hselected, hencoded⟩ := everyOperationIsOneRow s.context op'
    have hwidth : OutOfWidth op' e :=
      hencoded ▸ exec_fault (s := s.taken rest') hinv.1.serial hselected (hstep.symm.trans hfault)
    rcases hop with ⟨rfl, -⟩ | ⟨_, _, -, rfl⟩
    · cases hwidth with
      | pixel18 h => exact ⟨_, _, _, rest, .inl ⟨rfl, rfl, h⟩⟩
      | pixel16 h => exact ⟨_, _, _, rest, .inr (.inl ⟨rfl, rfl, h⟩)⟩
      | pixel12 h => exact ⟨_, _, _, rest, .inr (.inr ⟨rfl, rfl, h⟩)⟩
    · cases hwidth

/-! ### Refusals (R126, R127, R322) -/

/-- R126, R127: why a row is refused, for a row that is. -/
def refusal : Instr → Option Refusal
  | .outRouteOther _ | .inRouteOther _ => some .route
  | .portAbove _ _ => some .port
  | _ => none

theorem refusal_eq_route {i : Instr} :
    refusal i = some .route ↔ (∃ v, i = .outRouteOther v) ∨ ∃ peek, i = .inRouteOther peek := by
  cases i <;> simp [refusal]

theorem refusal_eq_port {i : Instr} : refusal i = some .port ↔ ∃ port access, i = .portAbove port access := by
  cases i <;> simp [refusal]

theorem refusal_ne_notModelled (i : Instr) (m : String) : refusal i ≠ some (.notModelled m) := by
  cases i <;> simp [refusal]

/-- R322: every state refuses these rows, and no other row is refused in any. -/
theorem exec_refused_iff (i : Instr) (s : State) (r : Refusal) : exec i s = .refused r ↔ refusal i = some r := by
  cases i with
  | outRouteOther | inRouteOther | portAbove => exact ⟨fun h => by cases h; rfl, fun h => by cases h; rfl⟩
  | outLcd | ramwrParam | ramwrcParam | pix18 | pix16 | pix12 => exact iff_of_false onBlockChecked_not_refused nofun
  | refresh =>
    obtain ⟨t, hnext⟩ := execRefresh_completes s
    exact iff_of_false (fun h => by cases hnext.symm.trans h) nofun
  | restore ok =>
    obtain ⟨t, hnext⟩ := execRestore_completes ok s
    exact iff_of_false (fun h => by cases hnext.symm.trans h) nofun
  | _ => exact iff_of_false (fun h => by cases h) nofun

section
variable (x : Context) (op : Op)

/-- R91, R126: the accesses of the data port on an undescribed route. -/
theorem refusal_decodeOp_route :
    refusal (decodeOp x op) = some .route ↔
      ((∃ v, op = .portWrite 0x18 v) ∨ ∃ peek, op = .portRead 0x18 peek) ∧ x.route ≠ 0 ∧ x.route ≠ 1 := by
  rw [refusal_eq_route]
  simp [decodeOp_eq_iff, Instr.wellFormed, Instr.selectedBy, encode, eq_comm (a := op), and_comm, ← and_or_left]

/-- R90, R127: the accesses above the data port. -/
theorem refusal_decodeOp_port :
    refusal (decodeOp x op) = some .port ↔
      ∃ port : U16, 0x18 < port.toNat ∧ ((∃ v, op = .portWrite port v) ∨ ∃ peek, op = .portRead port peek) := by
  simp only [refusal_eq_port, decodeOp_eq_iff, Instr.wellFormed, Instr.selectedBy, decide_eq_true_eq]
  refine exists_congr fun port => ⟨?_, ?_⟩
  · rintro ⟨access, habove, -, rfl⟩
    cases access with
    | write v => exact ⟨habove, .inl ⟨v, rfl⟩⟩
    | read peek => exact ⟨habove, .inr ⟨peek, rfl⟩⟩
  · rintro ⟨habove, ⟨v, rfl⟩ | ⟨peek, rfl⟩⟩
    · exact ⟨.write v, habove, trivial, rfl⟩
    · exact ⟨.read peek, habove, trivial, rfl⟩

end

/-- Settles O13: the step is refused as the row is that it runs; a frame is either ready, and then on the LCD path, or one more
write of the data port. -/
theorem stepRefusedExactly : Obligations.StepRefusedExactly := by
  intro s op rest hpending
  obtain ⟨op', rest', hstep, hop⟩ := step_eq_exec hpending
  have hroute : s.context.route = s.block.regs[0x12] := rfl
  simp only [hstep, ne_eq, exec_refused_iff, refusal_decodeOp_route, refusal_decodeOp_port, hroute]
  refine ⟨?_, ?_, refusal_ne_notModelled _⟩
  · rcases hop with ⟨rfl, hready⟩ | ⟨f, v, rfl, rfl⟩
    · have hlcd : (∃ f, op' = .frame f) → s.block.regs[0x12] = 0 := fun ⟨f, hf⟩ => (hready f hf).left
      tauto
    · simp
  · rcases hop with ⟨rfl, -⟩ | ⟨f, v, rfl, rfl⟩
    · rfl
    · simp

end Sys2Proof.Machine
end

section
/-! Power-on (O52, O59, O48): the block it leaves, that this block meets the invariant, and refreshes before the first row
evaluation. -/

namespace Sys2Proof.Machine

/-! ### The power-on state (R340, R341) -/

/-- R341: the steps of R340 leave the table of R341. -/
theorem powerOnBlock_eq : powerOnBlock = Block.reset := rfl

/-- R237, R340: the entries of the table for red and blue. -/
theorem lutTable_low : ∀ v : Fin 32, lutTable[v.val] = BitVec.ofNat 8 (v.val * 8 + v.val / 4) := by decide

/-- R237, R340: the entries of the table for green. -/
theorem lutTable_high : ∀ v : Fin 64, lutTable[32 + v.val] = BitVec.ofNat 8 (v.val * 4 + v.val / 16) := by decide

/-- Settles O52: the block does not depend on the one before, and its table is the formulas of R237. -/
theorem powerOnReset : Obligations.PowerOnReset := by
  intro s
  refine ⟨powerOnBlock, resolveRevision s.requestedRevision, rfl, ?_, rfl, lutTable_low, lutTable_high⟩
  cases s.requestedRevision <;> rfl

/-- Settles O59: the block is the one that a power-on reset leaves, and the stream is empty. -/
theorem resetMeetsTheInvariant : Obligations.ResetMeetsTheInvariant :=
  ⟨show Block.reset.Inv from powerOnBlock_eq ▸ powerOnBlock_inv, nofun⟩

/-! ### Refreshes before the first row evaluation (R354) -/

/-- The block after reset with an output buffer of its own. -/
def Block.resetShowing (display : Memory) : Block := { Block.reset with display := display }

/-- R240, R241: the output buffer after one refresh at the scan position of reset. -/
def whiteOrigin (display : Memory) : Memory := ((Block.resetShowing display).putDisplay 0 0 0xFF 0xFF 0xFF).display

/-- The four lanes of `display[0][0]` are the addresses below 4. -/
theorem whiteOrigin_read (display : Memory) (x : Nat) :
    (whiteOrigin display).read x = if x < 4 then 0xFF else display.read x := by
  obtain ⟨hred, hgreen, hblue, halpha, hother⟩ := putDisplay_read (Block.resetShowing display) 0 0 0xFF 0xFF 0xFF
  split
  · interval_cases x
    · exact hred
    · exact hgreen
    · exact hblue
    · exact halpha
  · exact hother x fun lane hlane hx => by simp only [displayAddr] at hx; omega

/-- R240, R241: asleep after reset and with no column step, a refresh shows white and leaves the scan position. -/
theorem refreshActive_resetShowing (n : Nat) (display : Memory) :
    refreshActive n (Block.resetShowing display) = (true, Block.resetShowing (whiteOrigin display)) := by
  have hasleep : showsBlank (Block.resetShowing display) = true :=
    (showsBlank_iff _).mpr (.inl (show Block.reset.mode.getLsbD 0 = true from rfl))
  have hwhite : writePixel (pixelColour (Block.resetShowing display) n) (Block.resetShowing display) =
      (Block.resetShowing display).putDisplay 0 0 0xFF 0xFF 0xFF := by
    rw [pixelColour, if_pos hasleep]
    exact writePixel_inside blankColour (show Block.reset.col.toNat < 240 by decide)
      (show Block.reset.dstRow.toNat < 320 by decide)
  rw [refreshActive_shape, hwhite]
  rfl

/-- R354: a refresh from such a block is active and ends in one. -/
theorem step_refresh_resetShowing {s : State} {display : Memory} {rest : List Op}
    (hblock : s.block = Block.resetShowing display) (hpending : s.pending = .refreshPixel :: rest) :
    ∃ u, step s = .next u ∧ u.pending = rest ∧ u.result = some (.flag true) ∧
      u.block = Block.resetShowing (whiteOrigin display) := by
  have hactive : s.block.mode.getLsbD 7 = false := hblock ▸ show Block.reset.mode.getLsbD 7 = false from rfl
  refine ⟨_, step_refresh hpending hactive, ?_⟩
  rw [State.refreshed, State.taken_block, hblock, refreshActive_resetShowing]
  exact ⟨rfl, rfl, rfl⟩

/-- R354: refreshes from such a block, one after the other. -/
theorem run_refreshes_resetShowing (n : Nat) {s : State} {display : Memory} {rest : List Op}
    (hblock : s.block = Block.resetShowing display) (hpending : s.pending = List.replicate (n + 1) .refreshPixel ++ rest) :
    ∃ t display', run (n + 1) s = .next t ∧ t.result = some (.flag true) ∧ t.block = Block.resetShowing display' ∧
      ∀ x, display'.read x = if x < 4 then 0xFF else display.read x := by
  induction n generalizing s display with
  | zero =>
    obtain ⟨t, hstep, -, hresult, hnext⟩ := step_refresh_resetShowing hblock hpending
    exact ⟨t, _, run_one.trans hstep, hresult, hnext, whiteOrigin_read display⟩
  | succ n ih =>
    obtain ⟨u, hstep, hrest, -, hnext⟩ := step_refresh_resetShowing hblock hpending
    obtain ⟨t, display', hrun, hresult, hshape, hread⟩ := ih hnext hrest
    refine ⟨t, display', (run_succ hstep).trans hrun, hresult, hshape, fun x => ?_⟩
    rw [hread, whiteOrigin_read]
    split <;> rfl

/-- Settles O48: the refreshes start from the block after reset, whose output buffer reads 0 everywhere. -/
theorem refreshBeforeTheFirstRow : Obligations.RefreshBeforeTheFirstRow := by
  intro n rest hn
  obtain ⟨n, rfl⟩ := Nat.exists_eq_succ_of_ne_zero (Nat.ne_of_gt hn)
  obtain ⟨t, display, hrun, hresult, hblock, hread⟩ := run_refreshes_resetShowing n
    (s := { State.reset with pending := List.replicate (n + 1) .refreshPixel ++ rest }) (display := []) (rest := rest) rfl rfl
  refine ⟨t, hrun, hresult, ?_, ?_⟩ <;> rw [hblock]
  · rfl
  · exact hread

end Sys2Proof.Machine
end
